-- ==== Sys2Proof/Word.lean ====
section
/-! DEFINITION. The widths of the CORE's registers (00_scope.md R5). -/

namespace Sys2Proof

/-- The payload and the accumulator: `W = 32` bits (R5, R21, R27). -/
abbrev Word := BitVec 32

/-- A transmission cursor: `CW = 6` bits, legal values 0 to 32 (R5, R22, R28). -/
abbrev Cursor := BitVec 6

/-- A 6-bit event word `ev[5:0]` (30_encoding.md R82). -/
abbrev EventWord := BitVec 6

/-- A peer handle. The spec calls it opaque and never shifts, masks or adds it (R24, R30); its width
`PEER_W` is an open parameter (R5), so it is a number that must be below `2 ^ PEER_W` (DESIGN CHOICE, log entry 4). -/
abbrev Peer := Nat

end Sys2Proof
end

