-- ==== Sys2Proof/Config.lean ====
section
/-! DEFINITION. The open parameters of 00_scope.md R5. They have no body, so no proof can see a value of
one. `State.reset` takes its two parameter fields from here (log entry 1). The third open parameter,
`dispatch_choice`, is no constant: the trace in State makes that choice (log entry 2). -/

namespace Sys2Proof

/-- `PEER_W`, the width of a peer handle (R5, 92_eei_decisions.md D18: OPEN). -/
opaque Config.peerW : Nat

/-- `transport_lossy`, whether the transport may lose a notification (R5, 92_eei_decisions.md D17: OPEN). -/
opaque Config.transportLossy : Bool

end Sys2Proof
end

