-- ==== Sys2Proof/Syntax.lean ====
section
/-! DEFINITION. The operations of spec/opcode_table.json, one constructor a row, with the operands the
spec gives them (30_encoding.md R85, R87). The kind of a notification is part of the row. -/

namespace Sys2Proof

/-- The three notification kinds (30_encoding.md R80). -/
inductive Kind where
  | bitZero
  | bitOne
  | ack
deriving DecidableEq, Repr

/-- One of the two engines: the sender `S` or the receiver `R` (10_state.md R20). -/
inductive Side where
  | sender
  | receiver
deriving DecidableEq, Repr

/-- One of the three agents that take steps (10_state.md R20). -/
inductive Agent where
  | engine (d : Side)
  | transport
deriving DecidableEq, Repr

/-- The 23 operations (30_encoding.md R88). -/
inductive Instr where
  | sDispBit0
  | sDispBit1
  | sDispAck
  | sLatchBit0
  | sLatchBit1
  | sLatchAck
  | sStart (payload : Word) (peer : Peer)
  | sReset
  | sEmit
  | rDispBit0
  | rDispBit1
  | rDispAck
  | rLatchBit0
  | rLatchBit1
  | rLatchAck
  | rStart (peer : Peer)
  | rReset
  | tDeliverBit0 (dst : Side)
  | tDeliverBit1 (dst : Side)
  | tDeliverAck (dst : Side)
  | tDropBit0 (dst : Side)
  | tDropBit1 (dst : Side)
  | tDropAck (dst : Side)
deriving DecidableEq, Repr

/-- Why the decoder refuses a trace (30_encoding.md R87, R88). -/
inductive DecodeRefusal where
  /-- The trace holds no word. -/
  | noWord
  /-- The first word of the trace needs more than the 6 bits of an event word (R82). -/
  | notSixBits
  /-- The kind code `0b11` (R80, R88). -/
  | reservedKind
  /-- A command other than START and RESET (R84, R88). -/
  | reservedCommand
  /-- The internal class, but for the sender's S.EMIT (R84, R88). -/
  | reservedInternal
  /-- `AGENT = 0b11` (R83, R88). -/
  | reservedAgent
  /-- The trace ends before the operands of a START (R87). -/
  | missingOperand
  /-- A payload word that needs more than 32 bits (R87). -/
  | payloadTooWide
  /-- A peer word that needs more than `PEER_W` bits (R87). -/
  | peerTooWide
deriving DecidableEq, Repr

end Sys2Proof
end

