-- ==== Sys2Proof/Machine/State.lean ====
section
/-! DEFINITION. The state of the link `(S, R, T)` (42_link.md R171): the sender's registers (10_state.md
R21 to R26), the receiver's (R27 to R32), the transport's in-flight flags (42_link.md R163), what the
two `ntf_out` ports present (10_state.md R37), the two open parameters held as data, and the trace of
events still to come. All of it is plain data. -/

namespace Sys2Proof.Machine

/-- The FSM state of an engine (10_state.md R23, R29). The code `0b11` is never produced (R33), so no
constructor stands for it. (Log entry 7.) -/
inductive Fsm where
  | idle
  | run
  | done
deriving DecidableEq, Repr

/-- One bit per notification kind: `E.pend` (R25, R31) and `T.wire[d]` (R163). -/
structure KindFlags where
  bitZero : Bool
  bitOne : Bool
  ack : Bool
deriving DecidableEq, Repr

/-- A notification as `ntf_out_kind` and `ntf_out_dst` present it (10_state.md R37). -/
structure Notification where
  kind : Kind
  dst : Peer
deriving DecidableEq, Repr

/-- The Sender Engine (R21 to R26). `ntfOut` is what its `ntf_out` port presents for the last
transition: `none` is `ntf_out_valid = 0` (R37, R164; DESIGN CHOICE, log entry 3). -/
structure Sender where
  payload : Word
  cursor : Cursor
  fsm : Fsm
  peer : Peer
  pend : KindFlags
  errUnexp : Bool
  errStart : Bool
  ntfOut : Option Notification
deriving DecidableEq, Repr

/-- The Receiver Engine (R27 to R32), with its `ntf_out` port (R38; log entry 3). -/
structure Receiver where
  acc : Word
  cursor : Cursor
  fsm : Fsm
  peer : Peer
  pend : KindFlags
  errUnexp : Bool
  errStart : Bool
  errOverrun : Bool
  ntfOut : Option Notification
deriving DecidableEq, Repr

/-- The transport's six in-flight flags `T.wire[d][k]` (42_link.md R163). -/
structure Wires where
  toSender : KindFlags
  toReceiver : KindFlags
deriving DecidableEq, Repr

/-- The link. `peerW` and `transportLossy` are the open parameters of 00_scope.md R5; no operation writes
them. `trace` is the encoded trace still to come (30_encoding.md R87): it is where the free choice of
the next operation (R171) and `dispatch_choice` (R161) stand, and nothing constrains it. -/
structure State where
  sender : Sender
  receiver : Receiver
  wires : Wires
  peerW : Nat
  transportLossy : Bool
  trace : List Nat
deriving DecidableEq, Repr

/-- Why the machine stops with a fault. -/
inductive Fault where
  /-- Raised by S.DISP.ACK with a cursor above 32, and by R.DISP.BIT0 and R.DISP.BIT1 in RUN with a cursor
  of 32 or more: it names no bit (93_implementation_defined.md U10 asks for it). SAFE: no state reachable
  from reset has such a cursor (10_state.md R33; DESIGN CHOICE, log entry 7). -/
  | illegalCursor
deriving DecidableEq, Repr

/-- Why the machine takes no step. -/
inductive Refusal where
  /-- Raised by `exec` for an operation that has no meaning yet. SAFE. -/
  | notModelled (mnemonic : String)
  /-- Raised by `step` when the trace is at its end: no operation is presented, so there is no step
  (42_link.md R171). SAFE. -/
  | noEvent
  /-- Raised by `step` when the front of the trace spells no event (30_encoding.md R87, R88). SAFE. -/
  | undecodable (why : DecodeRefusal)
  /-- Raised by `step` for S.EMIT presented alone (30_encoding.md R90). SAFE. -/
  | standaloneEmit
  /-- Raised by every DISP, DELIVER and DROP that is not enabled: it has no step (42_link.md R160, R165,
  R166, R171; log entry 5). SAFE. -/
  | notEnabled
  /-- Raised by T.DROP when `transport_lossy` is false (30_encoding.md R85). SAFE. -/
  | dropNotLossy
  /-- Raised by S.EMIT taken by itself outside its precondition, RUN with a cursor of at most 31, outside
  which 40_sender.md R103 gives it no effect. SAFE. (Log entry 13.) -/
  | emitPrecondition
deriving DecidableEq, Repr

/-- The outcome of an operation or a step. -/
abbrev Result := Host.Outcome State Fault Refusal

/-- No flag set. -/
def KindFlags.none : KindFlags := { bitZero := false, bitOne := false, ack := false }

/-- The sender after S.RESET (70_reset_and_hazards.md R230). -/
def Sender.reset : Sender :=
  { payload := 0x00000000#32, cursor := 0#6, fsm := .idle, peer := 0, pend := KindFlags.none,
    errUnexp := false, errStart := false, ntfOut := .none }

/-- The receiver after R.RESET (70_reset_and_hazards.md R231). That its port presents nothing is DEDUCED
(log entry 3). -/
def Receiver.reset : Receiver :=
  { acc := 0x00000000#32, cursor := 0#6, fsm := .idle, peer := 0, pend := KindFlags.none,
    errUnexp := false, errStart := false, errOverrun := false, ntfOut := .none }

/-- The transport holds nothing (70_reset_and_hazards.md R232). -/
def Wires.empty : Wires := { toSender := KindFlags.none, toReceiver := KindFlags.none }

/-- Power-on: both engines reset and nothing in flight (R230, R231, R232). The parameters are the
uninterpreted ones of Config (log entry 1); no event is presented (DESIGN CHOICE, log entry 2). -/
def State.reset : State :=
  { sender := Sender.reset, receiver := Receiver.reset, wires := Wires.empty,
    peerW := Config.peerW, transportLossy := Config.transportLossy, trace := [] }

end Sys2Proof.Machine
end

