-- ==== Sys2Proof/Machine/Operands.lean ====
section
/-! DEFINITION. The operand forms: a bit of the payload or the accumulator picked by a cursor, the kind
that carries a bit, the flag a kind indexes, and the fields an engine index picks. -/

namespace Sys2Proof.Machine

/-- `31 - cursor`, the bit a cursor picks (00_scope.md R6); none for the codes that pick no bit (U10). -/
def bitIndex (c : Cursor) : Option Nat :=
  if c.toNat < 32 then some (31 - c.toNat) else none

/-- `bitkind(b)`: the kind that carries bit value `b` (30_encoding.md R81). -/
def bitKind (b : Bool) : Kind := if b then .bitOne else .bitZero

/-- `v[i] <- b` (00_scope.md R8). -/
def setBit (v : Word) (i : Nat) (b : Bool) : Word :=
  if b then v ||| (1#32 <<< i) else v &&& ~~~(1#32 <<< i)

/-- The flag a kind indexes (30_encoding.md R80). -/
def KindFlags.get (f : KindFlags) : Kind → Bool
  | .bitZero => f.bitZero
  | .bitOne => f.bitOne
  | .ack => f.ack

/-- Write the flag a kind indexes. -/
def KindFlags.set (f : KindFlags) (k : Kind) (b : Bool) : KindFlags :=
  match k with
  | .bitZero => { f with bitZero := b }
  | .bitOne => { f with bitOne := b }
  | .ack => { f with ack := b }

/-- The other engine: by the premise of 42_link.md R168 the destination of what this one emits. -/
def otherSide : Side → Side
  | .sender => .receiver
  | .receiver => .sender

/-- `E.state`. -/
def State.fsm (s : State) : Side → Fsm
  | .sender => s.sender.fsm
  | .receiver => s.receiver.fsm

/-- `E.cursor`. -/
def State.cursor (s : State) : Side → Cursor
  | .sender => s.sender.cursor
  | .receiver => s.receiver.cursor

/-- `E.pend`. -/
def State.pend (s : State) : Side → KindFlags
  | .sender => s.sender.pend
  | .receiver => s.receiver.pend

/-- `T.wire[d]`. -/
def State.wire (s : State) : Side → KindFlags
  | .sender => s.wires.toSender
  | .receiver => s.wires.toReceiver

/-- What the engine's `ntf_out` port presents for the last transition (10_state.md R37, R38). -/
def State.ntfOut (s : State) : Side → Option Notification
  | .sender => s.sender.ntfOut
  | .receiver => s.receiver.ntfOut

end Sys2Proof.Machine
end

