-- ==== Sys2Proof/Machine/Flags.lean ====
section
/-! DEFINITION. The CORE's flags (10_state.md R42): the pending latches, the sticky error flags
(60_exceptions.md R204 to R207), DONE, and the STATUS word that shows them (10_state.md R35). -/

namespace Sys2Proof.Machine

/-- `E.pend[k] <- b`. -/
def State.setPend (s : State) (d : Side) (k : Kind) (b : Bool) : State :=
  match d with
  | .sender => { s with sender := { s.sender with pend := s.sender.pend.set k b } }
  | .receiver => { s with receiver := { s.receiver with pend := s.receiver.pend.set k b } }

/-- `raise ERR_UNEXP` (60_exceptions.md R204). -/
def State.raiseUnexp (s : State) (d : Side) : State :=
  match d with
  | .sender => { s with sender := { s.sender with errUnexp := true } }
  | .receiver => { s with receiver := { s.receiver with errUnexp := true } }

/-- `raise ERR_START` (60_exceptions.md R205). -/
def State.raiseStart (s : State) (d : Side) : State :=
  match d with
  | .sender => { s with sender := { s.sender with errStart := true } }
  | .receiver => { s with receiver := { s.receiver with errStart := true } }

/-- `raise ERR_OVERRUN`, the receiver's only (60_exceptions.md R206). -/
def State.raiseOverrun (s : State) : State :=
  { s with receiver := { s.receiver with errOverrun := true } }

/-- The FSM state after a cursor has been advanced to `c`: DONE when it reaches 32 (40_sender.md R103,
41_receiver.md R133, R134). -/
def fsmAfter (f : Fsm) (c : Cursor) : Fsm := if c = 32#6 then .done else f

/-- The code of the FSM state (10_state.md R23, R29). -/
def Fsm.code : Fsm → BitVec 2
  | .idle => 0b00#2
  | .run => 0b01#2
  | .done => 0b10#2

/-- STATUS bit 2 and the `done` output (10_state.md R35, R36). -/
def Fsm.isDone (f : Fsm) : Bool := decide (f = .done)

/-- The STATUS word, its fields from bit 31 down (10_state.md R35). -/
def statusWord (role errOverrun errStart errUnexp : Bool) (pend : KindFlags) (cursor : Cursor)
    (fsm : Fsm) : Word :=
  BitVec.ofBool role ++ 0#12 ++ BitVec.ofBool errOverrun ++ BitVec.ofBool errStart
    ++ BitVec.ofBool errUnexp ++ 0#1 ++ BitVec.ofBool pend.ack ++ BitVec.ofBool pend.bitOne
    ++ BitVec.ofBool pend.bitZero ++ 0#2 ++ cursor ++ 0#1 ++ BitVec.ofBool fsm.isDone ++ fsm.code

/-- STATUS of the sender: ROLE and ERR_OVERRUN are hardwired 0 (10_state.md R35). -/
def Sender.status (e : Sender) : Word :=
  statusWord false false e.errStart e.errUnexp e.pend e.cursor e.fsm

/-- STATUS of the receiver: ROLE is hardwired 1 (10_state.md R35, R38). -/
def Receiver.status (e : Receiver) : Word :=
  statusWord true e.errOverrun e.errStart e.errUnexp e.pend e.cursor e.fsm

end Sys2Proof.Machine
end

