-- ==== Sys2Proof/Machine/Ops.lean ====
section
/-! DEFINITION. The operations the meanings share: the start of a transition, `emit`, LATCH, the
dispatcher's observation of a latch, the transmission of the next bit, the acceptance of a bit, and the
transport's moves. There is no memory (20_memory.md R60), and no exception entry or return: a handler is
one DISP, which saves nothing and returns to nothing (60_exceptions.md R211, R212). -/

namespace Sys2Proof.Machine

/-- The start of a transition: `ntf_out_valid` is 1 only for the transition that emits (10_state.md R37),
so what an earlier one presented is gone. (DESIGN CHOICE, log entry 3.) -/
def State.silent (s : State) : State :=
  { s with sender := { s.sender with ntfOut := none },
           receiver := { s.receiver with ntfOut := none } }

/-- `T.wire[d][k] <- b` (42_link.md R163). -/
def State.setWire (s : State) (d : Side) (k : Kind) (b : Bool) : State :=
  match d with
  | .sender => { s with wires := { s.wires with toSender := s.wires.toSender.set k b } }
  | .receiver => { s with wires := { s.wires with toReceiver := s.wires.toReceiver.set k b } }

/-- `emit(E.peer, k)` by engine `E`: the port presents it with the engine's peer handle as destination,
and the flag of the other engine is set, or stays set (42_link.md R164, R168). The value of the
handle does not matter there (DEDUCED, log entry 14). -/
def State.emit (s : State) (e : Side) (k : Kind) : State :=
  let presented : State :=
    match e with
    | .sender => { s with sender := { s.sender with ntfOut := some ⟨k, s.sender.peer⟩ } }
    | .receiver => { s with receiver := { s.receiver with ntfOut := some ⟨k, s.receiver.peer⟩ } }
  presented.setWire (otherSide e) k true

/-- `E.LATCH.k`, enabled in every state (42_link.md R162). -/
def State.latch (s : State) (d : Side) (k : Kind) : State := s.setPend d k true

/-- A DISP of kind `k` is enabled exactly when the engine is not IDLE and the latch is set (42_link.md
R160). -/
def State.dispEnabled (s : State) (d : Side) (k : Kind) : Bool :=
  decide (s.fsm d ≠ .idle) && (s.pend d).get k

/-- A DISP: where it is enabled, the latch is cleared and the handler runs, in one transition; where it is
not, there is no step (42_link.md R160, R171; DEDUCED, log entry 5). -/
def dispatch (d : Side) (k : Kind) (handler : State → Result) (s : State) : Result :=
  if s.dispEnabled d k then handler (s.silent.setPend d k false) else .refused .notEnabled

/-- The sender sends bit `i` of the payload, advances the cursor, and enters DONE when the cursor reaches
32 (40_sender.md R103). -/
def State.sendBit (s : State) (i : Nat) : State :=
  let t := s.emit .sender (bitKind (s.sender.payload.getLsbD i))
  let c := t.sender.cursor + 1#6
  { t with sender := { t.sender with cursor := c, fsm := fsmAfter t.sender.fsm c } }

/-- S.EMIT's effect (40_sender.md R103): send the bit the cursor picks. A cursor that picks no bit is the
fault U10 asks for. -/
def emitBit (s : State) : Result :=
  match bitIndex s.sender.cursor with
  | some i => .next (s.sendBit i)
  | none => .fault .illegalCursor

/-- The receiver writes bit `i` of the accumulator, advances the cursor, enters DONE when the cursor
reaches 32, and sends an ACK (41_receiver.md R133, R134). -/
def State.takeBit (s : State) (i : Nat) (b : Bool) : State :=
  let c := s.receiver.cursor + 1#6
  let t : State :=
    { s with receiver := { s.receiver with
        acc := setBit s.receiver.acc i b, cursor := c, fsm := fsmAfter s.receiver.fsm c } }
  t.emit .receiver .ack

/-- The RUN half of R.DISP.BIT0 and R.DISP.BIT1 (41_receiver.md R133, R134): take the bit where the cursor
picks. -/
def acceptBit (b : Bool) (s : State) : Result :=
  match bitIndex s.receiver.cursor with
  | some i => .next (s.takeBit i b)
  | none => .fault .illegalCursor

/-- The handler of a bit at the receiver: accepted in RUN, an overrun in DONE (41_receiver.md R133,
R134; the pseudocode taken as written: DEDUCED, log entry 15). -/
def onBit (b : Bool) (s : State) : Result :=
  if s.receiver.fsm = .run then acceptBit b s else .next s.raiseOverrun

/-- The handler of a kind the engine has none for: the error flag and nothing else (60_exceptions.md
R204; DEDUCED, log entry 6). -/
def onUnexpected (d : Side) (s : State) : Result := .next (s.raiseUnexp d)

/-- T.DELIVER.k d: the notification leaves the wire and is latched (42_link.md R165). -/
def deliver (d : Side) (k : Kind) (s : State) : Result :=
  if (s.wire d).get k then .next ((s.silent.setWire d k false).latch d k)
  else .refused .notEnabled

/-- T.DROP.k d: the notification leaves the wire and nothing is latched (42_link.md R166); legal only on
a lossy transport (30_encoding.md R85). -/
def drop (d : Side) (k : Kind) (s : State) : Result :=
  if (s.wire d).get k then
    if s.transportLossy then .next (s.silent.setWire d k false) else .refused .dropNotLossy
  else .refused .notEnabled

end Sys2Proof.Machine
end

