-- ==== Sys2Proof/Machine/Receiver.lean ====
section
/-! DEFINITION. The Receiver Engine's operations (41_receiver.md). -/

namespace Sys2Proof.Machine

/-- R.RESET (R131): every register of the receiver at its reset value; the wires are not touched (R232). -/
def execRReset (s : State) : Result := .next { s.silent with receiver := Receiver.reset }

/-- R.START (R132): accepted in IDLE, and it sends nothing; otherwise ERR_START and nothing else. -/
def execRStart (peer : Peer) (s : State) : Result :=
  if s.receiver.fsm = .idle then
    .next { s.silent with receiver := { s.silent.receiver with
      acc := 0x00000000#32, cursor := 0#6, peer := peer, fsm := .run } }
  else .next (s.silent.raiseStart .receiver)

/-- R.DISP.BIT0 (R133). -/
def execRDispBit0 (s : State) : Result := dispatch .receiver .bitZero (onBit false) s

/-- R.DISP.BIT1 (R134). -/
def execRDispBit1 (s : State) : Result := dispatch .receiver .bitOne (onBit true) s

/-- R.DISP.ACK (R135). -/
def execRDispAck (s : State) : Result := dispatch .receiver .ack (onUnexpected .receiver) s

/-- R.LATCH.BIT0 (R136). -/
def execRLatchBit0 (s : State) : Result := .next (s.silent.latch .receiver .bitZero)

/-- R.LATCH.BIT1 (R136). -/
def execRLatchBit1 (s : State) : Result := .next (s.silent.latch .receiver .bitOne)

/-- R.LATCH.ACK (R136). -/
def execRLatchAck (s : State) : Result := .next (s.silent.latch .receiver .ack)

end Sys2Proof.Machine
end

