-- ==== Sys2Proof/Machine/Sender.lean ====
section
/-! DEFINITION. The Sender Engine's operations (40_sender.md). -/

namespace Sys2Proof.Machine

/-- S.RESET (R101): every register of the sender at its reset value; the wires are not touched (R232). -/
def execSReset (s : State) : Result := .next { s.silent with sender := Sender.reset }

/-- S.START (R102): accepted in IDLE, and then it sends the first bit in the same transition; otherwise
ERR_START and nothing else. -/
def execSStart (payload : Word) (peer : Peer) (s : State) : Result :=
  if s.sender.fsm = .idle then
    emitBit { s.silent with sender := { s.silent.sender with
      payload := payload, peer := peer, cursor := 0#6, fsm := .run } }
  else .next (s.silent.raiseStart .sender)

/-- S.EMIT (R103), by itself, under the precondition both its callers guarantee. (DEDUCED, log
entry 13.) -/
def execSEmit (s : State) : Result :=
  if s.sender.fsm = .run ∧ s.sender.cursor.toNat ≤ 31 then emitBit s.silent
  else .refused .emitPrecondition

/-- The handler of an ACK at the sender (R104): the next bit while there is one, nothing at cursor 32. The
pseudocode is taken as written (DEDUCED, log entry 15). -/
def onAck (s : State) : Result :=
  if s.sender.cursor.toNat < 32 then emitBit s
  else if s.sender.cursor = 32#6 then .next s
  else .fault .illegalCursor

/-- S.DISP.ACK (R104). -/
def execSDispAck (s : State) : Result := dispatch .sender .ack onAck s

/-- S.DISP.BIT0 (R105). -/
def execSDispBit0 (s : State) : Result := dispatch .sender .bitZero (onUnexpected .sender) s

/-- S.DISP.BIT1 (R106). -/
def execSDispBit1 (s : State) : Result := dispatch .sender .bitOne (onUnexpected .sender) s

/-- S.LATCH.BIT0 (R107). -/
def execSLatchBit0 (s : State) : Result := .next (s.silent.latch .sender .bitZero)

/-- S.LATCH.BIT1 (R107). -/
def execSLatchBit1 (s : State) : Result := .next (s.silent.latch .sender .bitOne)

/-- S.LATCH.ACK (R107). -/
def execSLatchAck (s : State) : Result := .next (s.silent.latch .sender .ack)

end Sys2Proof.Machine
end

