-- ==== Sys2Proof/Machine/Transport.lean ====
section
/-! DEFINITION. The transport's operations (42_link.md R165, R166). -/

namespace Sys2Proof.Machine

/-- T.DELIVER.BIT0 d (R165). -/
def execTDeliverBit0 (dst : Side) (s : State) : Result := deliver dst .bitZero s

/-- T.DELIVER.BIT1 d (R165). -/
def execTDeliverBit1 (dst : Side) (s : State) : Result := deliver dst .bitOne s

/-- T.DELIVER.ACK d (R165). -/
def execTDeliverAck (dst : Side) (s : State) : Result := deliver dst .ack s

/-- T.DROP.BIT0 d (R166). -/
def execTDropBit0 (dst : Side) (s : State) : Result := drop dst .bitZero s

/-- T.DROP.BIT1 d (R166). -/
def execTDropBit1 (dst : Side) (s : State) : Result := drop dst .bitOne s

/-- T.DROP.ACK d (R166). -/
def execTDropAck (dst : Side) (s : State) : Result := drop dst .ack s

end Sys2Proof.Machine
end

