-- ==== Sys2Proof/Machine/Dispatch.lean ====
section
/-! DEFINITION. One arm per operation of spec/opcode_table.json. -/

namespace Sys2Proof.Machine

/-- The effect of one operation: one atomic transition of one agent (20_memory.md R65). -/
def exec (i : Instr) (s : State) : Host.Outcome State Fault Refusal :=
  match i with
  | .sDispBit0 => Sys2Proof.Machine.execSDispBit0 s
  | .sDispBit1 => Sys2Proof.Machine.execSDispBit1 s
  | .sDispAck => Sys2Proof.Machine.execSDispAck s
  | .sLatchBit0 => Sys2Proof.Machine.execSLatchBit0 s
  | .sLatchBit1 => Sys2Proof.Machine.execSLatchBit1 s
  | .sLatchAck => Sys2Proof.Machine.execSLatchAck s
  | .sStart payload peer => Sys2Proof.Machine.execSStart payload peer s
  | .sReset => Sys2Proof.Machine.execSReset s
  | .sEmit => Sys2Proof.Machine.execSEmit s
  | .rDispBit0 => Sys2Proof.Machine.execRDispBit0 s
  | .rDispBit1 => Sys2Proof.Machine.execRDispBit1 s
  | .rDispAck => Sys2Proof.Machine.execRDispAck s
  | .rLatchBit0 => Sys2Proof.Machine.execRLatchBit0 s
  | .rLatchBit1 => Sys2Proof.Machine.execRLatchBit1 s
  | .rLatchAck => Sys2Proof.Machine.execRLatchAck s
  | .rStart peer => Sys2Proof.Machine.execRStart peer s
  | .rReset => Sys2Proof.Machine.execRReset s
  | .tDeliverBit0 dst => Sys2Proof.Machine.execTDeliverBit0 dst s
  | .tDeliverBit1 dst => Sys2Proof.Machine.execTDeliverBit1 dst s
  | .tDeliverAck dst => Sys2Proof.Machine.execTDeliverAck dst s
  | .tDropBit0 dst => Sys2Proof.Machine.execTDropBit0 dst s
  | .tDropBit1 dst => Sys2Proof.Machine.execTDropBit1 dst s
  | .tDropAck dst => Sys2Proof.Machine.execTDropAck dst s

end Sys2Proof.Machine
end

