-- ==== Sys2Proof/Decode.lean ====
section
/-! DEFINITION. Decoding and encoding (30_encoding.md). The decoder reads the bit fields of R82 to R85;
the encoder writes the words of the map R88; that the two agree is proved, not built in. An encoded
trace is a list of words of different widths (R87): a 6-bit event word, and after a START word one
32-bit payload word (S.START only) and one `PEER_W`-bit peer word. -/

namespace Sys2Proof

/-- The code of a notification kind (R80). -/
def Kind.code : Kind → BitVec 2
  | .bitZero => 0b00#2
  | .bitOne => 0b01#2
  | .ack => 0b10#2

/-- The kind a code names; `0b11` names none (R80). -/
def Kind.ofCode (c : BitVec 2) : Option Kind :=
  if c = 0b00#2 then some .bitZero
  else if c = 0b01#2 then some .bitOne
  else if c = 0b10#2 then some .ack
  else none

/-- Whether a number is a `PEER_W`-bit word. (Zero is tested by itself: it is one whatever the open
width is, and so needs no value of it.) -/
def peerFits (peerW : Nat) (h : Peer) : Bool :=
  h == 0 || decide (h < 2 ^ peerW)

/-- `AGENT = ev[5:4]` (R82, R83). -/
def EventWord.agent (ev : EventWord) : BitVec 2 := ev.extractLsb' 4 2

/-- `CLASS = ev[3:2]` of an engine word (R84). -/
def EventWord.cls (ev : EventWord) : BitVec 2 := ev.extractLsb' 2 2

/-- `SUB = ev[1:0]` of an engine word, and the kind code of a transport word (R84, R85). -/
def EventWord.sub (ev : EventWord) : BitVec 2 := ev.extractLsb' 0 2

/-- `OP = ev[3]` of a transport word: true is DROP (R85). -/
def EventWord.op (ev : EventWord) : Bool := ev.getLsbD 3

/-- `DST = ev[2]` of a transport word: 0 the sender, 1 the receiver (R85). -/
def EventWord.dst (ev : EventWord) : Side := if ev.getLsbD 2 then .receiver else .sender

/-- The first operand word of S.START: the payload, 32 bits taken bit for bit (R87). -/
def takePayload : List Nat → Except DecodeRefusal (Word × List Nat)
  | [] => .error .missingOperand
  | w :: rest => if w < 2 ^ 32 then .ok (BitVec.ofNat 32 w, rest) else .error .payloadTooWide

/-- The last operand word of a START: the peer handle, `PEER_W` bits (R87). -/
def takePeer (peerW : Nat) : List Nat → Except DecodeRefusal (Peer × List Nat)
  | [] => .error .missingOperand
  | w :: rest => if peerFits peerW w then .ok (w, rest) else .error .peerTooWide

/-- The operands of S.START: payload, then peer (R87). -/
def takeSStart (peerW : Nat) (ws : List Nat) : Except DecodeRefusal (Instr × List Nat) :=
  match takePayload ws with
  | .error e => .error e
  | .ok (payload, ws') =>
    match takePeer peerW ws' with
    | .error e => .error e
    | .ok (peer, rest) => .ok (.sStart payload peer, rest)

/-- The operand of R.START: peer only (R87). -/
def takeRStart (peerW : Nat) (ws : List Nat) : Except DecodeRefusal (Instr × List Nat) :=
  match takePeer peerW ws with
  | .error e => .error e
  | .ok (peer, rest) => .ok (.rStart peer, rest)

/-- An operation without operand words, picked by the kind code. -/
def byKind (sub : BitVec 2) (rest : List Nat) (f : Kind → Instr) :
    Except DecodeRefusal (Instr × List Nat) :=
  match Kind.ofCode sub with
  | some k => .ok (f k, rest)
  | none => .error .reservedKind

/-- `S.DISP.k` (R84, R88). -/
def Instr.sDisp : Kind → Instr
  | .bitZero => .sDispBit0
  | .bitOne => .sDispBit1
  | .ack => .sDispAck

/-- `S.LATCH.k` (R84, R88). -/
def Instr.sLatch : Kind → Instr
  | .bitZero => .sLatchBit0
  | .bitOne => .sLatchBit1
  | .ack => .sLatchAck

/-- `R.DISP.k` (R84, R88). -/
def Instr.rDisp : Kind → Instr
  | .bitZero => .rDispBit0
  | .bitOne => .rDispBit1
  | .ack => .rDispAck

/-- `R.LATCH.k` (R84, R88). -/
def Instr.rLatch : Kind → Instr
  | .bitZero => .rLatchBit0
  | .bitOne => .rLatchBit1
  | .ack => .rLatchAck

/-- `T.DELIVER.k d` (R85, R88). -/
def Instr.tDeliver (d : Side) : Kind → Instr
  | .bitZero => .tDeliverBit0 d
  | .bitOne => .tDeliverBit1 d
  | .ack => .tDeliverAck d

/-- `T.DROP.k d` (R85, R88). -/
def Instr.tDrop (d : Side) : Kind → Instr
  | .bitZero => .tDropBit0 d
  | .bitOne => .tDropBit1 d
  | .ack => .tDropAck d

/-- The sender's words, by CLASS and SUB (R84). -/
def decodeSender (peerW : Nat) (ev : EventWord) (rest : List Nat) :
    Except DecodeRefusal (Instr × List Nat) :=
  if ev.cls = 0b00#2 then byKind ev.sub rest Instr.sDisp
  else if ev.cls = 0b01#2 then byKind ev.sub rest Instr.sLatch
  else if ev.cls = 0b10#2 then
    if ev.sub = 0b00#2 then takeSStart peerW rest
    else if ev.sub = 0b01#2 then .ok (.sReset, rest)
    else .error .reservedCommand
  else if ev.sub = 0b00#2 then .ok (.sEmit, rest)
  else .error .reservedInternal

/-- The receiver's words, by CLASS and SUB (R84). -/
def decodeReceiver (peerW : Nat) (ev : EventWord) (rest : List Nat) :
    Except DecodeRefusal (Instr × List Nat) :=
  if ev.cls = 0b00#2 then byKind ev.sub rest Instr.rDisp
  else if ev.cls = 0b01#2 then byKind ev.sub rest Instr.rLatch
  else if ev.cls = 0b10#2 then
    if ev.sub = 0b00#2 then takeRStart peerW rest
    else if ev.sub = 0b01#2 then .ok (.rReset, rest)
    else .error .reservedCommand
  else .error .reservedInternal

/-- The transport's words, by OP, DST and kind (R85). -/
def decodeTransport (ev : EventWord) (rest : List Nat) :
    Except DecodeRefusal (Instr × List Nat) :=
  byKind ev.sub rest (if ev.op then Instr.tDrop ev.dst else Instr.tDeliver ev.dst)

/-- One event word, and the trace after it (R83). -/
def decodeEvent (peerW : Nat) (ev : EventWord) (rest : List Nat) :
    Except DecodeRefusal (Instr × List Nat) :=
  if ev.agent = 0b00#2 then decodeSender peerW ev rest
  else if ev.agent = 0b01#2 then decodeReceiver peerW ev rest
  else if ev.agent = 0b10#2 then decodeTransport ev rest
  else .error .reservedAgent

/-- The operation at the front of an encoded trace, and the trace after it. Total on every list of
numbers; what spells no event is refused by name (R88). S.EMIT and T.DROP are named by their words here
as in the map of R88; that S.EMIT is never presented alone (R90) is the step's, that T.DROP needs
a lossy transport (R85, R166) is the meaning's. (DESIGN CHOICE, log entry 12.) -/
def decode (peerW : Nat) : List Nat → Except DecodeRefusal (Instr × List Nat)
  | [] => .error .noWord
  | w :: rest => if w < 64 then decodeEvent peerW (BitVec.ofNat 6 w) rest else .error .notSixBits

/-- The word of the map R88. -/
def eventWord : Instr → EventWord
  | .sDispBit0 => 0x00#6
  | .sDispBit1 => 0x01#6
  | .sDispAck => 0x02#6
  | .sLatchBit0 => 0x04#6
  | .sLatchBit1 => 0x05#6
  | .sLatchAck => 0x06#6
  | .sStart _ _ => 0x08#6
  | .sReset => 0x09#6
  | .sEmit => 0x0C#6
  | .rDispBit0 => 0x10#6
  | .rDispBit1 => 0x11#6
  | .rDispAck => 0x12#6
  | .rLatchBit0 => 0x14#6
  | .rLatchBit1 => 0x15#6
  | .rLatchAck => 0x16#6
  | .rStart _ => 0x18#6
  | .rReset => 0x19#6
  | .tDeliverBit0 .sender => 0x20#6
  | .tDeliverBit1 .sender => 0x21#6
  | .tDeliverAck .sender => 0x22#6
  | .tDeliverBit0 .receiver => 0x24#6
  | .tDeliverBit1 .receiver => 0x25#6
  | .tDeliverAck .receiver => 0x26#6
  | .tDropBit0 .sender => 0x28#6
  | .tDropBit1 .sender => 0x29#6
  | .tDropAck .sender => 0x2A#6
  | .tDropBit0 .receiver => 0x2C#6
  | .tDropBit1 .receiver => 0x2D#6
  | .tDropAck .receiver => 0x2E#6

/-- The operand words that follow the event word (R87). -/
def operandWords : Instr → List Nat
  | .sStart payload peer => [payload.toNat, peer]
  | .rStart peer => [peer]
  | _ => []

/-- The words of an operation in an encoded trace (R87, R88). -/
def encode (i : Instr) : List Nat := (eventWord i).toNat :: operandWords i

/-- The words of a sequence of operations. -/
def encodeAll (is : List Instr) : List Nat := is.flatMap encode

/-- The trace that an opcode-table word stands for: the word, then operand words of zeros. Every event
word is 6 bits in one byte, so bits 7:6 of the byte must be 0 (R82; DESIGN CHOICE, log entry
10). -/
def tableWords (nbits w : Nat) : List Nat := [w % 2 ^ nbits, 0, 0]

/-- The operation the decoder reads from an opcode-table word followed by operand words of zeros. (The
handle 0 fits every width, so the width given here does not matter.) -/
def decodeTableWord (nbits w : Nat) : Option Instr :=
  match decode 0 (tableWords nbits w) with
  | .ok (i, _) => some i
  | .error _ => none

end Sys2Proof
end

