-- ==== Sys2Proof/WellFormed.lean ====
section
/-! DEFINITION. Which operations an encoded trace can spell and a link trace may present: the operand of
a START has its port's width (30_encoding.md R87), S.EMIT is never presented alone (R90), and T.DROP is
legal only on a lossy transport (R85). -/

namespace Sys2Proof

/-- The peer operand of a START is a `PEER_W`-bit word (R87). The payload has its width by its type. -/
def Instr.operandsFit (peerW : Nat) : Instr → Bool
  | .sStart _ peer => peerFits peerW peer
  | .rStart peer => peerFits peerW peer
  | _ => true

/-- A trace never presents S.EMIT on its own (R90). -/
def Instr.presentable : Instr → Bool
  | .sEmit => false
  | _ => true

/-- The T.DROP rows (R85, R166). -/
def Instr.isDrop : Instr → Bool
  | .tDropBit0 _ => true
  | .tDropBit1 _ => true
  | .tDropAck _ => true
  | _ => false

/-- T.DROP words are legal only when `transport_lossy` is true (R85). -/
def Instr.dropLegal (lossy : Bool) (i : Instr) : Bool := !i.isDrop || lossy

/-- The operations a link trace may present, given the two parameters. -/
def Instr.wellFormed (peerW : Nat) (lossy : Bool) (i : Instr) : Bool :=
  i.operandsFit peerW && i.presentable && i.dropLegal lossy

end Sys2Proof
end

