-- ==== Sys2Proof/Machine/Present.lean ====
section
/-! DEFINITION. How the operation at the front of the trace is presented to the machine: the reading of
the trace, its consumption, and the run of the operation. -/

namespace Sys2Proof.Machine

/-- The trace still to come. -/
def State.withTrace (s : State) (ws : List Nat) : State := { s with trace := ws }

/-- The operation presented next, and the trace after it (30_encoding.md R87). -/
def State.presented (s : State) : Except DecodeRefusal (Instr × List Nat) := decode s.peerW s.trace

/-- Run an operation that the trace presents, its words consumed; S.EMIT is never presented alone
(30_encoding.md R90). -/
def runPresented (i : Instr) (rest : List Nat) (s : State) : Result :=
  if i.presentable then exec i (s.withTrace rest) else .refused .standaloneEmit

end Sys2Proof.Machine
end

