-- ==== Sys2Proof/Machine/Step.lean ====
section
/-! DEFINITION. One step of the link: the operation the trace presents next (42_link.md R171). -/

namespace Sys2Proof.Machine

/-- One step: the operation at the front of the trace, if one is presented and the words spell it. A
LATCH presented alone runs too (DESIGN CHOICE, log entry 8). -/
def step (s : State) : Host.Outcome State Fault Refusal :=
  match s.trace with
  | [] => .refused .noEvent
  | _ :: _ =>
    match s.presented with
    | .error e => .refused (.undecodable e)
    | .ok (i, rest) => runPresented i rest s

/-- The state in which an opcode-table word, its operand words zero, is the trace. -/
def State.withFetchWord (s : State) (nbits w : Nat) : State := s.withTrace (tableWords nbits w)

end Sys2Proof.Machine
end

