-- ==== Sys2Proof/Machine/Ports.lean ====
section
/-! DEFINITION. What a host sees without a side effect: STATUS, DATA, `done` and the `ntf_out` lines
(10_state.md R35 to R38), the LATCHes a pulse pattern on `ntf_in` stands for, and the observation functions that render a word (00_scope.md R7,
42_link.md R176, R177). -/

namespace Sys2Proof.Machine

/-- The `status[31:0]` output of an engine (10_state.md R35, R37, R38). -/
def State.status (s : State) : Side → Word
  | .sender => s.sender.status
  | .receiver => s.receiver.status

/-- The `data[31:0]` output: the payload of the sender, the accumulator of the receiver (R36). -/
def State.data (s : State) : Side → Word
  | .sender => s.sender.payload
  | .receiver => s.receiver.acc

/-- The `done` output (R36). -/
def State.doneOut (s : State) (d : Side) : Bool := (s.fsm d).isDone

/-- `ntf_out_valid` (R37, R164). -/
def State.ntfOutValid (s : State) (d : Side) : Bool := (s.ntfOut d).isSome

/-- `ntf_out_kind[1:0]` while `ntf_out_valid` is 1 (R37, R80). -/
def State.ntfOutKind (s : State) (d : Side) : Option (BitVec 2) :=
  (s.ntfOut d).map fun n => n.kind.code

/-- `ntf_out_dst[PEER_W-1:0]` while `ntf_out_valid` is 1 (R37). -/
def State.ntfOutDst (s : State) (d : Side) : Option Peer :=
  (s.ntfOut d).map Notification.dst

/-- `E.LATCH.k` of an engine. -/
def latchOp : Side → Kind → Instr
  | .sender => Instr.sLatch
  | .receiver => Instr.rLatch

/-- `E.DISP.k` of an engine. -/
def dispOp : Side → Kind → Instr
  | .sender => Instr.sDisp
  | .receiver => Instr.rDisp

/-- The LATCHes that pulses on `ntf_in[2:0]` are: line `k` is the kind of code `k` (R37, R38). -/
def pulses (d : Side) (ntfIn : BitVec 3) : List Instr :=
  ([Kind.bitZero, .bitOne, .ack].filter fun k => ntfIn.getLsbD k.code.toNat).map (latchOp d)

/-- `signed32(v)`: the two's-complement reading (00_scope.md R7; log entry 11). -/
def signed32 (v : Word) : Int :=
  if v.getLsbD 31 then (v.toNat : Int) - 2 ^ 32 else (v.toNat : Int)

/-- `bin32(v)`: character `j` is bit `31 - j` (42_link.md R176). -/
def bin32 (v : Word) : List Char :=
  (List.range 32).map fun j => if v.getLsbD (31 - j) then '1' else '0'

/-- The decimal numeral of `signed32(v)`: a leading `-` for a negative value only (42_link.md R177;
PRESUMED, log entry 11). -/
def decimal32 (v : Word) : List Char :=
  let n := signed32 v
  if n < 0 then '-' :: Nat.toDigits 10 n.natAbs else Nat.toDigits 10 n.natAbs

end Sys2Proof.Machine
end

