-- ==== Sys2Proof/Machine/Pseudo.lean ====
section
/-! DEFINITION. The pseudo-operations of 30_encoding.md R92, each the sequence it abbreviates. -/

namespace Sys2Proof.Machine

/-- `LINK.RESET`. -/
def linkReset : List Instr := [.sReset, .rReset]

/-- `LINK.START v, hs, hr`. -/
def linkStart (v : Word) (hs hr : Peer) : List Instr := [.rStart hs, .sStart v hr]

/-- `ROUND b`: one half-duplex round after the sender has emitted bit value `b`. -/
def roundOps (b : Bool) : List Instr :=
  [.tDeliver .receiver (bitKind b), .rDisp (bitKind b), .tDeliverAck .sender, .sDispAck]

/-- `RX b`: a bit arriving at a receiver tested alone. -/
def rxOps (b : Bool) : List Instr := [.rLatch (bitKind b), .rDisp (bitKind b)]

/-- `TX_ACK`: an ACK arriving at a sender tested alone. -/
def txAckOps : List Instr := [.sLatchAck, .sDispAck]

end Sys2Proof.Machine
end

