-- ==== Sys2Proof/Safety.lean ====
section
/-! DEFINITION. The terms claims use: who takes an operation, when it is enabled, the invariants of
10_state.md R33 and 42_link.md R172, complete, quiescent and stalled runs (R178, R180), executions and
fairness (R171, R179), and a clocked realisation (70_reset_and_hazards.md R244). -/

namespace Sys2Proof

/-- The agent whose transition an operation is (20_memory.md R65, 30_encoding.md R83). -/
def Instr.agent : Instr → Agent
  | .sDispBit0 | .sDispBit1 | .sDispAck | .sLatchBit0 | .sLatchBit1 | .sLatchAck
  | .sStart _ _ | .sReset | .sEmit => .engine .sender
  | .rDispBit0 | .rDispBit1 | .rDispAck | .rLatchBit0 | .rLatchBit1 | .rLatchAck
  | .rStart _ | .rReset => .engine .receiver
  | .tDeliverBit0 _ | .tDeliverBit1 _ | .tDeliverAck _
  | .tDropBit0 _ | .tDropBit1 _ | .tDropAck _ => .transport

/-- RESET of one engine. -/
def Instr.isResetOf : Side → Instr → Bool
  | .sender, .sReset => true
  | .receiver, .rReset => true
  | _, _ => false

/-- RESET of either engine. -/
def Instr.isReset (i : Instr) : Bool := i.isResetOf .sender || i.isResetOf .receiver

/-- START of one engine. -/
def Instr.isStartOf : Side → Instr → Bool
  | .sender, .sStart _ _ => true
  | .receiver, .rStart _ => true
  | _, _ => false

/-- START of either engine. -/
def Instr.isStart (i : Instr) : Bool := i.isStartOf .sender || i.isStartOf .receiver

/-- LATCH of an engine as an operation of its own, a pulse on `ntf_in`. -/
def Instr.isLatch : Instr → Bool
  | .sLatchBit0 | .sLatchBit1 | .sLatchAck | .rLatchBit0 | .rLatchBit1 | .rLatchAck => true
  | _ => false

/-- A DISP or a T.DELIVER, the operations fairness speaks of (42_link.md R179). -/
def Instr.isDispOrDeliver : Instr → Bool
  | .sDispBit0 | .sDispBit1 | .sDispAck | .rDispBit0 | .rDispBit1 | .rDispAck
  | .tDeliverBit0 _ | .tDeliverBit1 _ | .tDeliverAck _ => true
  | _ => false

/-- A dispatch of a bit at the receiver. -/
def Instr.isBitDispatch : Instr → Bool
  | .rDispBit0 | .rDispBit1 => true
  | _ => false

/-- The operations that are steps of the link model: LATCH occurs there only inside T.DELIVER (R171), and
S.EMIT only inside its callers (R90). -/
def Instr.isLinkOp (i : Instr) : Bool := !i.isLatch && i.presentable

end Sys2Proof

namespace Sys2Proof.Machine

/-- Each operation's "Enabled" clause, as 40_sender.md, 41_receiver.md and 42_link.md R160, R165 and R166
give it; for S.EMIT its precondition (R103). -/
def enabled (i : Instr) (s : State) : Prop :=
  match i with
  | .sDispBit0 => s.sender.fsm ≠ .idle ∧ s.sender.pend.bitZero = true
  | .sDispBit1 => s.sender.fsm ≠ .idle ∧ s.sender.pend.bitOne = true
  | .sDispAck => s.sender.fsm ≠ .idle ∧ s.sender.pend.ack = true
  | .sLatchBit0 | .sLatchBit1 | .sLatchAck | .sStart _ _ | .sReset => True
  | .sEmit => s.sender.fsm = .run ∧ s.sender.cursor.toNat ≤ 31
  | .rDispBit0 => s.receiver.fsm ≠ .idle ∧ s.receiver.pend.bitZero = true
  | .rDispBit1 => s.receiver.fsm ≠ .idle ∧ s.receiver.pend.bitOne = true
  | .rDispAck => s.receiver.fsm ≠ .idle ∧ s.receiver.pend.ack = true
  | .rLatchBit0 | .rLatchBit1 | .rLatchAck | .rStart _ | .rReset => True
  | .tDeliverBit0 d => (s.wire d).bitZero = true
  | .tDeliverBit1 d => (s.wire d).bitOne = true
  | .tDeliverAck d => (s.wire d).ack = true
  | .tDropBit0 d => s.transportLossy = true ∧ (s.wire d).bitZero = true
  | .tDropBit1 d => s.transportLossy = true ∧ (s.wire d).bitOne = true
  | .tDropAck d => s.transportLossy = true ∧ (s.wire d).ack = true

/-- The premise "no error flag set" that claims take (60_exceptions.md R208). -/
abbrev State.noError (s : State) : Prop :=
  s.sender.errUnexp = false ∧ s.sender.errStart = false ∧
  s.receiver.errUnexp = false ∧ s.receiver.errStart = false ∧ s.receiver.errOverrun = false

/-- An error flag of an engine, by its STATUS bit (10_state.md R35). -/
inductive ErrorFlag where
  | unexp (d : Side)
  | start (d : Side)
  | overrun
deriving DecidableEq, Repr

/-- The engine that holds an error flag. -/
def ErrorFlag.side : ErrorFlag → Side
  | .unexp d => d
  | .start d => d
  | .overrun => .receiver

/-- Whether an error flag is set. -/
def State.errorFlag (s : State) : ErrorFlag → Bool
  | .unexp .sender => s.sender.errUnexp
  | .unexp .receiver => s.receiver.errUnexp
  | .start .sender => s.sender.errStart
  | .start .receiver => s.receiver.errStart
  | .overrun => s.receiver.errOverrun

/-- The sender's invariant (10_state.md R33). -/
structure Sender.Inv (e : Sender) : Prop where
  cursor_le : e.cursor.toNat ≤ 32
  idle_cursor : e.fsm = .idle → e.cursor.toNat = 0
  run_cursor : e.fsm = .run → 1 ≤ e.cursor.toNat ∧ e.cursor.toNat ≤ 31
  done_iff : e.fsm = .done ↔ e.cursor.toNat = 32

/-- The receiver's invariant (10_state.md R33). -/
structure Receiver.Inv (e : Receiver) : Prop where
  cursor_le : e.cursor.toNat ≤ 32
  idle_cursor : e.fsm = .idle → e.cursor.toNat = 0 ∧ e.acc = 0#32
  run_cursor : e.fsm = .run → e.cursor.toNat ≤ 31
  done_iff : e.fsm = .done ↔ e.cursor.toNat = 32
  unreceived_zero : ∀ i : Nat, i + e.cursor.toNat ≤ 31 → e.acc.getLsbD i = false

/-- The invariant of 10_state.md R33, for both engines. -/
structure EngineInv (s : State) : Prop where
  sender : s.sender.Inv
  receiver : s.receiver.Inv

/-- Every peer handle held is a `PEER_W`-bit word (00_scope.md R5, 10_state.md R24, R30). -/
def PeersFit (s : State) : Prop :=
  peerFits s.peerW s.sender.peer = true ∧ peerFits s.peerW s.receiver.peer = true

/-- `Clean`: LINK.RESET with nothing in flight (42_link.md R172, 70_reset_and_hazards.md R232). -/
structure Clean (s : State) : Prop where
  sender : s.sender = Sender.reset
  receiver : s.receiver = Receiver.reset
  wires : s.wires = Wires.empty

/-- `nb`: the bit notifications outstanding at or on the way to the receiver (42_link.md R172). -/
def State.nb (s : State) : Nat :=
  s.wires.toReceiver.bitZero.toNat + s.wires.toReceiver.bitOne.toNat +
    s.receiver.pend.bitZero.toNat + s.receiver.pend.bitOne.toNat

/-- `na`: the ACKs outstanding at or on the way to the sender (42_link.md R172). -/
def State.na (s : State) : Nat := s.wires.toSender.ack.toNat + s.sender.pend.ack.toNat

/-- "is 1", where a lossy transport may have lost it: then 0 is allowed in its place (42_link.md R172;
DEDUCED, log entry 18). -/
def State.oneOrLost (s : State) (n : Nat) : Prop := n = 1 ∨ (s.transportLossy = true ∧ n = 0)

/-- A notification of kind `k` is on the way to the receiver or latched there. -/
def State.outstandingAtReceiver (s : State) (k : Kind) : Bool :=
  s.wires.toReceiver.get k || s.receiver.pend.get k

/-- The lock-step invariant, clause by clause as 42_link.md R172 states it, for both values of
`transport_lossy`. -/
structure LockStep (s : State) : Prop where
  no_wrong_wire : s.wires.toSender.bitZero = false ∧ s.wires.toSender.bitOne = false ∧
    s.wires.toReceiver.ack = false
  no_wrong_latch : s.sender.pend.bitZero = false ∧ s.sender.pend.bitOne = false ∧
    s.receiver.pend.ack = false
  no_error : s.noError
  idle : s.sender.fsm = .idle →
    s.sender.cursor.toNat = 0 ∧ s.receiver.cursor.toNat = 0 ∧ s.nb = 0 ∧ s.na = 0
  started : s.sender.fsm ≠ .idle →
    (s.sender.cursor.toNat = s.receiver.cursor.toNat + 1 ∧ s.oneOrLost s.nb ∧ s.na = 0 ∧
      ∀ b : Bool, s.outstandingAtReceiver (bitKind b) = true →
        b = s.sender.payload.getLsbD (31 - s.receiver.cursor.toNat)) ∨
    (s.sender.cursor.toNat = s.receiver.cursor.toNat ∧ s.sender.cursor.toNat < 32 ∧
      s.nb = 0 ∧ s.oneOrLost s.na) ∨
    (s.sender.cursor.toNat = s.receiver.cursor.toNat ∧ s.sender.cursor.toNat = 32 ∧
      s.nb = 0 ∧ s.na ≤ 1)
  received : ∀ i : Nat, i < 32 → 32 ≤ i + s.receiver.cursor.toNat →
    s.receiver.acc.getLsbD i = s.sender.payload.getLsbD i
  unreceived : ∀ i : Nat, i < 32 → i + s.receiver.cursor.toNat < 32 →
    s.receiver.acc.getLsbD i = false

/-- A run is complete when both engines are DONE (42_link.md R178). -/
def Complete (s : State) : Prop := s.sender.fsm = .done ∧ s.receiver.fsm = .done

/-- No notification is in flight or latched. -/
def NothingPending (s : State) : Prop :=
  s.wires = Wires.empty ∧ s.sender.pend = KindFlags.none ∧ s.receiver.pend = KindFlags.none

/-- A run is quiescent when it is complete and every wire flag and latch is 0 (42_link.md R178). -/
def Quiescent (s : State) : Prop := Complete s ∧ NothingPending s

/-- A stall: no DISP and no T.DELIVER is enabled and the run is not complete (42_link.md R178, R180). R178 says
"no step", yet START and RESET are enabled in every state (R171): the model counts only the steps R180 names
(DEDUCED, log entry 19). So a Clean link, and a started sender whose first bit is held at an IDLE receiver,
are stalled in this sense, although START leads out of them. -/
def Stalled (s : State) : Prop :=
  (∀ i : Instr, i.isDispOrDeliver = true → ¬ enabled i s) ∧ ¬ Complete s

/-- Run operations one after the other, stopping at the first that does not complete. -/
def execAll : List Instr → State → Result
  | [], s => .next s
  | i :: is, s =>
    match exec i s with
    | .next t => execAll is t
    | .fault f => .fault f
    | .refused r => .refused r

/-- The steps R172 speaks of: link steps without RESET, and with at most one START per engine. -/
def cleanRun (is : List Instr) : Prop :=
  (∀ i ∈ is, i.isLinkOp = true ∧ i.isReset = false) ∧
  (is.countP (Instr.isStartOf .sender)) ≤ 1 ∧ (is.countP (Instr.isStartOf .receiver)) ≤ 1

/-- An infinite execution of the link: at each point one operation of the link model takes place, or none
does and nothing changes (42_link.md R171). A finite execution is one in which none does from some
point on. (DEDUCED, log entry 16.) -/
def Execution (σ : Nat → State) (ev : Nat → Option Instr) : Prop :=
  ∀ n, match ev n with
    | some i => i.isLinkOp = true ∧ exec i (σ n) = .next (σ (n + 1))
    | none => σ (n + 1) = σ n

/-- Weak fairness (42_link.md R179): a DISP or T.DELIVER that stays enabled is eventually taken. -/
def WeaklyFair (σ : Nat → State) (ev : Nat → Option Instr) : Prop :=
  ∀ i : Instr, i.isDispOrDeliver = true →
    ∀ n, (∀ m, n ≤ m → enabled i (σ m)) → ∃ m, n ≤ m ∧ ev m = some i

/-- How many of the first `n` points of an execution satisfy `p`. -/
def countUpTo (p : Nat → Bool) : Nat → Nat
  | 0 => 0
  | n + 1 => countUpTo p n + (p n).toNat

/-- At point `n` a bit is dispatched at the receiver. -/
def bitDispatchAt (ev : Nat → Option Instr) (n : Nat) : Bool := (ev n).any Instr.isBitDispatch

/-- At point `n` an ACK is dispatched at the sender. -/
def ackDispatchAt (ev : Nat → Option Instr) (n : Nat) : Bool := decide (ev n = some .sDispAck)

/-- At point `n` an ACK is dispatched at the sender and a bit is emitted. -/
def emittingAckAt (σ : Nat → State) (ev : Nat → Option Instr) (n : Nat) : Bool :=
  ackDispatchAt ev n && (σ (n + 1)).ntfOutValid .sender

/-- The transfers R173 speaks of: a weakly fair execution from `Clean` over a transport that loses nothing,
with no RESET and exactly one START per engine, `S.START v, hr` and `R.START hs`, in either order. -/
structure Transfer (σ : Nat → State) (ev : Nat → Option Instr) (v : Word) (hs hr : Peer) : Prop where
  execution : Execution σ ev
  fair : WeaklyFair σ ev
  clean : Clean (σ 0)
  lossless : (σ 0).transportLossy = false
  no_reset : ∀ n i, ev n = some i → i.isReset = false
  starts_sender : ∃ n, ev n = some (.sStart v hr)
  starts_receiver : ∃ n, ev n = some (.rStart hs)
  one_start : ∀ d m n i j, ev m = some i → ev n = some j →
    i.isStartOf d = true → j.isStartOf d = true → m = n

/-- The registers of the link, apart from what the `ntf_out` ports present and the trace to come. -/
def State.registers (s : State) : State := { s.silent with trace := [] }

/-- Run operations and collect, in order, what an engine's `ntf_out` port presents, once for each
operation that emits. -/
def execEmitting (d : Side) : List Instr → State → Option (State × List Notification)
  | [], s => some (s, [])
  | i :: is, s =>
    match exec i s with
    | .next t =>
      match execEmitting d is t with
      | some (u, out) => some (u, (t.ntfOut d).toList ++ out)
      | none => none
    | _ => none

/-- A clock cycle of an engine that takes it from `s` to `t` and presents `out` is correct when some
sequence of the engine's operations has that effect and those emissions (70_reset_and_hazards.md R244;
DEDUCED, log entry 17). -/
def CorrectCycle (d : Side) (s t : State) (out : List Notification) : Prop :=
  ∃ is : List Instr, (∀ i ∈ is, i.agent = .engine d ∧ i.presentable = true) ∧
    execEmitting d is s = some (t, out)

end Sys2Proof.Machine
end

