-- ==== Sys2Proof/Certificates/Slice0/Obligations.lean ====
section
/-! DEFINITION. The statements for the provers, in the order of the spec's files: power-on and encoding,
the operations with their results and frames, the dispatcher, whole-machine rules, the lock-step link,
the observation functions, the clocked realisation. A transition leaves each `ntf_out` port presenting
exactly what the transition emits (10_state.md R37), so a result below also sets the two `ntfOut` fields. A result that
is written out as a record of the old state says its own frame: what it does not name is unchanged. -/

open Sys2Proof Sys2Proof.Machine

/-! ### Terms of this file -/

/-- The words of the map R88 that carry no operand words, with what they name. -/
def Sys2Proof.Machine.plainEventWords : List (Nat × Instr) :=
  [(0x00, .sDispBit0), (0x01, .sDispBit1), (0x02, .sDispAck), (0x04, .sLatchBit0),
   (0x05, .sLatchBit1), (0x06, .sLatchAck), (0x09, .sReset), (0x0C, .sEmit), (0x10, .rDispBit0),
   (0x11, .rDispBit1), (0x12, .rDispAck), (0x14, .rLatchBit0), (0x15, .rLatchBit1),
   (0x16, .rLatchAck), (0x19, .rReset)] ++
  [(0x20, .tDeliverBit0 .sender), (0x21, .tDeliverBit1 .sender), (0x22, .tDeliverAck .sender),
   (0x24, .tDeliverBit0 .receiver), (0x25, .tDeliverBit1 .receiver),
   (0x26, .tDeliverAck .receiver), (0x28, .tDropBit0 .sender), (0x29, .tDropBit1 .sender),
   (0x2A, .tDropAck .sender), (0x2C, .tDropBit0 .receiver), (0x2D, .tDropBit1 .receiver),
   (0x2E, .tDropAck .receiver)]

/-- The reserved words of the map R88. -/
def Sys2Proof.Machine.reservedEventWords : List Nat :=
  [0x03, 0x07, 0x0A, 0x0B, 0x0D, 0x0E, 0x0F, 0x13, 0x17, 0x1A, 0x1B, 0x1C, 0x1D, 0x1E, 0x1F,
   0x23, 0x27, 0x2B, 0x2F] ++
  [0x30, 0x31, 0x32, 0x33, 0x34, 0x35, 0x36, 0x37, 0x38, 0x39, 0x3A, 0x3B, 0x3C, 0x3D, 0x3E, 0x3F]

/-- The sender emitted, in the transition that led to `t`, the bit that cursor `c` picks. -/
def Sys2Proof.Machine.sentBit (c : Cursor) (t : State) : Prop :=
  t.sender.ntfOut = some ⟨bitKind (t.sender.payload.getLsbD (31 - c.toNat)), t.sender.peer⟩

/-! ### Power-on and encoding -/

/-- 70_reset_and_hazards.md R230, R231, R232: the link at power-on, register by register; no RESET clears
a wire. That the receiver's `ntf_out` port presents nothing at power-on is the model's reading (DEDUCED,
log entry 3): R231 does not say it, R230 says it of the sender. -/
def Obligations.PowerOnIsTheResetState : Prop :=
  State.reset.sender = ⟨0x00000000#32, 0#6, .idle, 0, ⟨false, false, false⟩, false, false, none⟩ ∧
  State.reset.receiver =
    ⟨0x00000000#32, 0#6, .idle, 0, ⟨false, false, false⟩, false, false, false, none⟩ ∧
  State.reset.wires = ⟨⟨false, false, false⟩, ⟨false, false, false⟩⟩ ∧
  State.reset.status .sender = 0x00000000#32 ∧ State.reset.status .receiver = 0x80000000#32 ∧
  (∀ d, State.reset.data d = 0x00000000#32 ∧ State.reset.doneOut d = false ∧
    State.reset.ntfOutValid d = false) ∧
  Clean State.reset ∧
  ∀ s t : State, exec .sReset s = .next t ∨ exec .rReset s = .next t → t.wires = s.wires

/-- 30_encoding.md R88: the map of the 64 event words, each with whatever follows it in the trace: the
words that carry no operands name their operation, the two STARTs take theirs, and a reserved word
names none. A step takes no reserved word (R88), no S.EMIT presented alone (R90), and no T.DROP on a
transport that loses nothing (R85). That the decoder itself names S.EMIT for 0x0C and T.DROP for its words,
and the step refuses them, is the model's layout (DESIGN CHOICE, log entry 12). -/
def Obligations.EventWordMap : Prop :=
  (∀ peerW rest, ∀ p ∈ plainEventWords, decode peerW (p.1 :: rest) = .ok (p.2, rest)) ∧
  (∀ peerW (v : Word) h rest, peerFits peerW h = true →
    decode peerW (0x08 :: v.toNat :: h :: rest) = .ok (.sStart v h, rest) ∧
    decode peerW (0x18 :: h :: rest) = .ok (.rStart h, rest)) ∧
  (∀ peerW rest, ∀ w ∈ reservedEventWords, ∃ e, decode peerW (w :: rest) = .error e) ∧
  (∀ w < 64, w ∈ reservedEventWords ∨ w = 0x08 ∨ w = 0x18 ∨ ∃ i, (w, i) ∈ plainEventWords) ∧
  (∀ (s : State) (w : Nat) (rest : List Nat), s.trace = w :: rest →
    (w ∈ reservedEventWords ∨ w = 0x0C ∨
      (s.transportLossy = false ∧ w ∈ [0x28, 0x29, 0x2A, 0x2C, 0x2D, 0x2E])) →
    ∃ r, step s = .refused r)

/-- A few words written out bit by bit from R82 to R85: AGENT, CLASS or OP and DST, SUB. That the decoder names
T.DROP whatever the transport is, is log entry 12, and that it refuses a handle too wide for its port is
log entry 4 (both DESIGN CHOICE). -/
def Obligations.WordsFromTheirFields : Prop :=
  decode 4 [0b000010] = .ok (.sDispAck, []) ∧
  decode 4 [0b000101] = .ok (.sLatchBit1, []) ∧
  decode 4 [0b001000, 0x80000001, 7] = .ok (.sStart 0x80000001#32 7, []) ∧
  decode 4 [0b010001] = .ok (.rDispBit1, []) ∧
  decode 4 [0b011001] = .ok (.rReset, []) ∧
  decode 4 [0b100110] = .ok (.tDeliverAck .receiver, []) ∧
  decode 4 [0b101100] = .ok (.tDropBit0 .receiver, []) ∧
  decode 4 [0b001000, 0x80000001, 16] = .error .peerTooWide ∧
  decode 4 [0b001000, 0x100000000, 7] = .error .payloadTooWide ∧
  decode 4 [0b001000, 5] = .error .missingOperand

/-- Decoding what the encoder wrote gives the operation back, with every operand at every value its
port carries, and leaves the trace after it (R87, R88). It covers S.EMIT and T.DROP too: the decoder names
them and the step refuses them where R90 and R85 do (DESIGN CHOICE, log entry 12). -/
def Obligations.DecodeOfEncode : Prop :=
  ∀ (peerW : Nat) (i : Instr) (rest : List Nat), i.operandsFit peerW = true →
    decode peerW (encode i ++ rest) = .ok (i, rest)

/-- What decodes was spelled by the encoder: no other words name an operation (R87, R88). The decoder
names S.EMIT and T.DROP too (DESIGN CHOICE, log entry 12). -/
def Obligations.EncodeOfDecode : Prop :=
  ∀ (peerW : Nat) (ws rest : List Nat) (i : Instr), decode peerW ws = .ok (i, rest) →
    ws = encode i ++ rest ∧ i.operandsFit peerW = true

/-- A step runs the operation the trace presents, its words consumed (R87, R171), and takes no step where
the trace presents none, spells none (R88), or presents S.EMIT alone (R90). The trace as a queue in State is
the model's choice (log entry 2), and so is that the step, not the decoder, refuses S.EMIT (log entry 12). -/
def Obligations.StepRunsThePresentedOperation : Prop :=
  (∀ (s : State) (i : Instr) (rest : List Nat),
    decode s.peerW s.trace = .ok (i, rest) → i.presentable = true →
      step s = exec i { s with trace := rest }) ∧
  (∀ s : State, s.trace = [] → step s = .refused .noEvent) ∧
  (∀ (s : State) (e : DecodeRefusal), s.trace ≠ [] → decode s.peerW s.trace = .error e →
    step s = .refused (.undecodable e)) ∧
  (∀ (s : State) (rest : List Nat), s.trace = 0x0C :: rest → step s = .refused .standaloneEmit)

/-! ### The sender's operations -/

/-- 40_sender.md R101: S.RESET, in every state. -/
def Obligations.SResetResult : Prop :=
  eventWord .sReset = 0x09#6 ∧ ∀ s : State, ∃ t : State, exec .sReset s = .next t ∧
    t = { s with
      sender := ⟨0x00000000#32, 0#6, .idle, 0, ⟨false, false, false⟩, false, false, none⟩
      receiver := { s.receiver with ntfOut := none } } ∧
    t.status .sender = 0x00000000#32 ∧ t.data .sender = 0x00000000#32 ∧
    t.doneOut .sender = false

/-- 40_sender.md R102: S.START in IDLE is accepted and sends bit 31 in the same transition; elsewhere it
raises ERR_START and changes nothing else. Both halves say their frames. -/
def Obligations.SStartResult : Prop :=
  ∀ (s : State) (v : Word) (h : Peer), eventWord (.sStart v h) = 0x08#6 ∧
    (s.sender.fsm = .idle →
      exec (.sStart v h) s = .next { s with
        sender := { s.sender with payload := v, peer := h, cursor := 1#6, fsm := .run,
                                  ntfOut := some ⟨bitKind (v.getLsbD 31), h⟩ }
        receiver := { s.receiver with ntfOut := none }
        wires := { s.wires with
          toReceiver := s.wires.toReceiver.set (bitKind (v.getLsbD 31)) true } }) ∧
    (s.sender.fsm ≠ .idle →
      exec (.sStart v h) s = .next { s with
        sender := { s.sender with errStart := true, ntfOut := none }
        receiver := { s.receiver with ntfOut := none } })

/-- 40_sender.md R103: S.EMIT under its precondition sends the bit the cursor picks, most significant
first, advances the cursor without wrapping, and enters DONE at 32; it is never an event of its own. -/
def Obligations.SEmitResult : Prop :=
  eventWord .sEmit = 0x0C#6 ∧
  (∀ (s : State) (rest : List Nat), s.trace = 0x0C :: rest → ∃ r, step s = .refused r) ∧
  ∀ s : State, s.sender.fsm = .run → s.sender.cursor.toNat ≤ 31 →
    ∃ (t : State) (k : Kind), exec .sEmit s = .next t ∧
      k = bitKind (s.sender.payload.getLsbD (31 - s.sender.cursor.toNat)) ∧
      t = { s with
        sender := { s.sender with
          cursor := t.sender.cursor
          fsm := if s.sender.cursor.toNat = 31 then .done else .run
          ntfOut := some ⟨k, s.sender.peer⟩ }
        receiver := { s.receiver with ntfOut := none }
        wires := { s.wires with toReceiver := s.wires.toReceiver.set k true } } ∧
      t.sender.cursor.toNat = s.sender.cursor.toNat + 1

/-- 40_sender.md R104: S.DISP.ACK consumes the ACK and, while the cursor is below 32, sends the next bit;
at 32 it does nothing else; where it is not enabled there is no step. -/
def Obligations.SDispAckResult : Prop :=
  eventWord .sDispAck = 0x02#6 ∧
  (∀ s : State, ¬ (s.sender.fsm ≠ .idle ∧ s.sender.pend.ack = true) →
    exec .sDispAck s = .refused .notEnabled) ∧
  ∀ s : State, s.sender.fsm ≠ .idle → s.sender.pend.ack = true →
    (s.sender.fsm = .run → s.sender.cursor.toNat ≤ 31 →
      ∃ (t : State) (k : Kind), exec .sDispAck s = .next t ∧
        k = bitKind (s.sender.payload.getLsbD (31 - s.sender.cursor.toNat)) ∧
        t = { s with
          sender := { s.sender with
            pend := { s.sender.pend with ack := false }
            cursor := t.sender.cursor
            fsm := if s.sender.cursor.toNat = 31 then .done else .run
            ntfOut := some ⟨k, s.sender.peer⟩ }
          receiver := { s.receiver with ntfOut := none }
          wires := { s.wires with toReceiver := s.wires.toReceiver.set k true } } ∧
        t.sender.cursor.toNat = s.sender.cursor.toNat + 1) ∧
    (s.sender.cursor.toNat = 32 →
      exec .sDispAck s = .next { s with
        sender := { s.sender with pend := { s.sender.pend with ack := false }, ntfOut := none }
        receiver := { s.receiver with ntfOut := none } })

/-- 40_sender.md R105, R106: a bit kind at the sender is consumed and recorded, and nothing else changes;
where it is not enabled there is no step. -/
def Obligations.SDispBitResult : Prop :=
  eventWord .sDispBit0 = 0x00#6 ∧ eventWord .sDispBit1 = 0x01#6 ∧
  (∀ s : State,
    (¬ (s.sender.fsm ≠ .idle ∧ s.sender.pend.bitZero = true) →
      exec .sDispBit0 s = .refused .notEnabled) ∧
    (¬ (s.sender.fsm ≠ .idle ∧ s.sender.pend.bitOne = true) →
      exec .sDispBit1 s = .refused .notEnabled)) ∧
  ∀ s : State, s.sender.fsm ≠ .idle →
    (s.sender.pend.bitZero = true →
      exec .sDispBit0 s = .next { s with
        sender := { s.sender with pend := { s.sender.pend with bitZero := false },
                                  errUnexp := true, ntfOut := none }
        receiver := { s.receiver with ntfOut := none } }) ∧
    (s.sender.pend.bitOne = true →
      exec .sDispBit1 s = .next { s with
        sender := { s.sender with pend := { s.sender.pend with bitOne := false },
                                  errUnexp := true, ntfOut := none }
        receiver := { s.receiver with ntfOut := none } })

/-- 40_sender.md R107: S.LATCH sets the latch of its kind in every state. -/
def Obligations.SLatchResult : Prop :=
  (eventWord .sLatchBit0 = 0x04#6 ∧ eventWord .sLatchBit1 = 0x05#6 ∧
    eventWord .sLatchAck = 0x06#6) ∧
  ∀ s : State,
    exec .sLatchBit0 s = .next { s with
      sender := { s.sender with pend := { s.sender.pend with bitZero := true }, ntfOut := none }
      receiver := { s.receiver with ntfOut := none } } ∧
    exec .sLatchBit1 s = .next { s with
      sender := { s.sender with pend := { s.sender.pend with bitOne := true }, ntfOut := none }
      receiver := { s.receiver with ntfOut := none } } ∧
    exec .sLatchAck s = .next { s with
      sender := { s.sender with pend := { s.sender.pend with ack := true }, ntfOut := none }
      receiver := { s.receiver with ntfOut := none } }

/-! ### The receiver's operations -/

/-- 41_receiver.md R131: R.RESET, in every state. -/
def Obligations.RResetResult : Prop :=
  eventWord .rReset = 0x19#6 ∧ ∀ s : State, ∃ t : State, exec .rReset s = .next t ∧
    t = { s with
      receiver :=
        ⟨0x00000000#32, 0#6, .idle, 0, ⟨false, false, false⟩, false, false, false, none⟩
      sender := { s.sender with ntfOut := none } } ∧
    t.status .receiver = 0x80000000#32 ∧ t.data .receiver = 0x00000000#32 ∧
    t.doneOut .receiver = false

/-- 41_receiver.md R132: R.START in IDLE is accepted and sends nothing; elsewhere it raises ERR_START and
changes nothing else. -/
def Obligations.RStartResult : Prop :=
  ∀ (s : State) (h : Peer), eventWord (.rStart h) = 0x18#6 ∧
    (s.receiver.fsm = .idle →
      exec (.rStart h) s = .next { s with
        sender := { s.sender with ntfOut := none }
        receiver := { s.receiver with acc := 0x00000000#32, cursor := 0#6, peer := h, fsm := .run,
                                      ntfOut := none } }) ∧
    (s.receiver.fsm ≠ .idle →
      exec (.rStart h) s = .next { s with
        sender := { s.sender with ntfOut := none }
        receiver := { s.receiver with errStart := true, ntfOut := none } })

/-- 41_receiver.md R133, R134: a bit dispatched in RUN is written where the cursor points, the cursor
advances without wrapping, DONE is entered at 32, and one ACK is sent; a bit dispatched in DONE raises
ERR_OVERRUN, with no write, no increment and no ACK; the latch is consumed in both; where it is not enabled
there is no step. -/
def Obligations.RDispBitResult : Prop :=
  eventWord .rDispBit0 = 0x10#6 ∧ eventWord .rDispBit1 = 0x11#6 ∧
  ∀ (s : State) (b : Bool),
    (¬ (s.receiver.fsm ≠ .idle ∧ s.receiver.pend.get (bitKind b) = true) →
      exec (if b then .rDispBit1 else .rDispBit0) s = .refused .notEnabled) ∧
    (s.receiver.fsm = .run → s.receiver.cursor.toNat ≤ 31 →
      s.receiver.pend.get (bitKind b) = true →
        ∃ t : State, exec (if b then .rDispBit1 else .rDispBit0) s = .next t ∧
          t = { s with
            sender := { s.sender with ntfOut := none }
            receiver := { s.receiver with
              pend := s.receiver.pend.set (bitKind b) false
              acc := t.receiver.acc
              cursor := t.receiver.cursor
              fsm := if s.receiver.cursor.toNat = 31 then .done else .run
              ntfOut := some ⟨.ack, s.receiver.peer⟩ }
            wires := { s.wires with toSender := { s.wires.toSender with ack := true } } } ∧
          t.receiver.cursor.toNat = s.receiver.cursor.toNat + 1 ∧
          ∀ j < 32, t.receiver.acc.getLsbD j =
            if j = 31 - s.receiver.cursor.toNat then b else s.receiver.acc.getLsbD j) ∧
    (s.receiver.fsm = .done → s.receiver.pend.get (bitKind b) = true →
      exec (if b then .rDispBit1 else .rDispBit0) s = .next { s with
        sender := { s.sender with ntfOut := none }
        receiver := { s.receiver with pend := s.receiver.pend.set (bitKind b) false,
                                      errOverrun := true, ntfOut := none } })

/-- 41_receiver.md R135: an ACK at the receiver is consumed and recorded, and nothing else changes; where it
is not enabled there is no step. -/
def Obligations.RDispAckResult : Prop :=
  eventWord .rDispAck = 0x12#6 ∧
  (∀ s : State, ¬ (s.receiver.fsm ≠ .idle ∧ s.receiver.pend.ack = true) →
    exec .rDispAck s = .refused .notEnabled) ∧
  ∀ s : State, s.receiver.fsm ≠ .idle → s.receiver.pend.ack = true →
    exec .rDispAck s = .next { s with
      sender := { s.sender with ntfOut := none }
      receiver := { s.receiver with pend := { s.receiver.pend with ack := false },
                                    errUnexp := true, ntfOut := none } }

/-- 41_receiver.md R136: R.LATCH sets the latch of its kind in every state. -/
def Obligations.RLatchResult : Prop :=
  (eventWord .rLatchBit0 = 0x14#6 ∧ eventWord .rLatchBit1 = 0x15#6 ∧
    eventWord .rLatchAck = 0x16#6) ∧
  ∀ s : State,
    exec .rLatchBit0 s = .next { s with
      sender := { s.sender with ntfOut := none }
      receiver := { s.receiver with pend := { s.receiver.pend with bitZero := true },
                                    ntfOut := none } } ∧
    exec .rLatchBit1 s = .next { s with
      sender := { s.sender with ntfOut := none }
      receiver := { s.receiver with pend := { s.receiver.pend with bitOne := true },
                                    ntfOut := none } } ∧
    exec .rLatchAck s = .next { s with
      sender := { s.sender with ntfOut := none }
      receiver := { s.receiver with pend := { s.receiver.pend with ack := true },
                                    ntfOut := none } }

/-! ### The transport's operations -/

/-- 42_link.md R165: T.DELIVER moves a notification from the wire to the latch of its kind, whether or not
that latch is already set; where nothing is in flight there is no step. -/
def Obligations.TDeliverResult : Prop :=
  (∀ (d : Side) (k : Kind), (eventWord (Instr.tDeliver d k)).toNat =
    0x20 + (if d = .receiver then 4 else 0) + k.code.toNat) ∧
  (∀ (s : State) (d : Side) (k : Kind), (s.wire d).get k = false →
    exec (Instr.tDeliver d k) s = .refused .notEnabled) ∧
  ∀ (s : State) (d : Side) (k : Kind), (s.wire d).get k = true →
    ∃ t : State, exec (Instr.tDeliver d k) s = .next t ∧
      (d = .sender → t = { s with
        sender := { s.sender with pend := s.sender.pend.set k true, ntfOut := none }
        receiver := { s.receiver with ntfOut := none }
        wires := { s.wires with toSender := s.wires.toSender.set k false } }) ∧
      (d = .receiver → t = { s with
        sender := { s.sender with ntfOut := none }
        receiver := { s.receiver with pend := s.receiver.pend.set k true, ntfOut := none }
        wires := { s.wires with toReceiver := s.wires.toReceiver.set k false } })

/-- 42_link.md R166: T.DROP on a lossy transport loses the notification, latches nothing and raises no error
flag; where it is not enabled there is no step. -/
def Obligations.TDropResult : Prop :=
  (∀ (d : Side) (k : Kind), (eventWord (Instr.tDrop d k)).toNat =
    0x28 + (if d = .receiver then 4 else 0) + k.code.toNat) ∧
  (∀ (s : State) (d : Side) (k : Kind), ¬ (s.transportLossy = true ∧ (s.wire d).get k = true) →
    ∃ r, exec (Instr.tDrop d k) s = .refused r) ∧
  ∀ (s : State) (d : Side) (k : Kind), s.transportLossy = true → (s.wire d).get k = true →
    ∃ t : State, exec (Instr.tDrop d k) s = .next t ∧
      (d = .sender → t = { s with
        sender := { s.sender with ntfOut := none }
        receiver := { s.receiver with ntfOut := none }
        wires := { s.wires with toSender := s.wires.toSender.set k false } }) ∧
      (d = .receiver → t = { s with
        sender := { s.sender with ntfOut := none }
        receiver := { s.receiver with ntfOut := none }
        wires := { s.wires with toReceiver := s.wires.toReceiver.set k false } })

/-- 30_encoding.md R85: on a transport that loses nothing every T.DROP is refused, by `exec` and by a step
whose trace presents it. -/
def Obligations.TDropRefusedWhenLossless : Prop :=
  ∀ (s : State) (d : Side) (k : Kind) (rest : List Nat), s.transportLossy = false →
    (∃ r, exec (Instr.tDrop d k) s = .refused r) ∧
    (s.trace = encode (Instr.tDrop d k) ++ rest → ∃ r, step s = .refused r)

/-! ### The dispatcher and enabledness -/

/-- 42_link.md R160: DISP is enabled exactly when the engine is not IDLE and the latch is set, and then
clears the latch; nothing but RESET takes a latch from an IDLE engine, and START takes none. -/
def Obligations.DispatchEnabledness : Prop :=
  (∀ (s : State) (d : Side) (k : Kind),
    (exec (dispOp d k) s = .refused .notEnabled ↔
      ¬ (s.fsm d ≠ .idle ∧ (s.pend d).get k = true)) ∧
    (∀ t, exec (dispOp d k) s = .next t → (t.pend d).get k = false)) ∧
  (∀ (s t : State) (d : Side) (i : Instr) (k : Kind), exec i s = .next t →
    (s.fsm d = .idle ∨ i.isStartOf d = true) → i.isResetOf d = false →
      (s.pend d).get k = true → (t.pend d).get k = true)

/-- Every operation that the spec's "Enabled" clauses enable completes, and no other does, in every state
that meets R33; a not-enabled operation is refused in any state (42_link.md R171). -/
def Obligations.EnabledOperationsComplete : Prop :=
  (∀ (i : Instr) (s : State), EngineInv s → (enabled i s ↔ ∃ t, exec i s = .next t)) ∧
  (∀ (i : Instr) (s : State), ¬ enabled i s → ∃ r, exec i s = .refused r)

/-- 42_link.md R161: with two latches set, either DISP can be the next, and it leaves the other enabled. -/
def Obligations.AnyPendingKindMayBeNext : Prop :=
  ∀ (s : State) (d : Side) (k k' : Kind), EngineInv s → s.fsm d ≠ .idle → k ≠ k' →
    (s.pend d).get k = true → (s.pend d).get k' = true →
      ∃ t, exec (dispOp d k) s = .next t ∧ enabled (dispOp d k') t

/-- An operation that needs the bit of a cursor that picks none faults, and that is the only fault there is.
93_implementation_defined.md U10 asks for a fault on the codes 33 to 63; which operations fault, and that a
bit dispatched in RUN at cursor 32 faults as well, is the model's choice (DESIGN CHOICE, log entry 7). -/
def Obligations.IllegalCursorFaults : Prop :=
  (∀ s : State, s.sender.fsm ≠ .idle → s.sender.pend.ack = true → 32 < s.sender.cursor.toNat →
    exec .sDispAck s = .fault .illegalCursor) ∧
  (∀ (s : State) (b : Bool), s.receiver.fsm = .run → 32 ≤ s.receiver.cursor.toNat →
    s.receiver.pend.get (bitKind b) = true →
      exec (if b then .rDispBit1 else .rDispBit0) s = .fault .illegalCursor) ∧
  (∀ (i : Instr) (s : State) (f : Fault), EngineInv s → exec i s ≠ .fault f)

/-! ### Rules about every operation -/

/-- 10_state.md R33: every operation, and so every step, keeps the engine invariant. -/
def Obligations.EngineInvariantKept : Prop :=
  (∀ (i : Instr) (s t : State), EngineInv s → exec i s = .next t → EngineInv t) ∧
  (∀ s t : State, EngineInv s → step s = .next t → EngineInv t)

/-- 10_state.md R33 holds at power-on, and of every `Clean` link. -/
def Obligations.EngineInvariantAtPowerOn : Prop :=
  EngineInv State.reset ∧ ∀ s, Clean s → EngineInv s

/-- The peer handles stay `PEER_W`-bit words along every step (00_scope.md R5, 30_encoding.md R87), and
they are at power-on. -/
def Obligations.PeerHandlesFitTheirWidth : Prop :=
  PeersFit State.reset ∧ ∀ s t : State, PeersFit s → step s = .next t → PeersFit t

/-- No operation writes a parameter or the trace; a step consumes exactly the words of the operation it
runs. The parameters of 00_scope.md R5 as fields of State, and the encoded trace of 30_encoding.md R87 as a
queue in State, are the model's choices (DESIGN CHOICE, log entries 1 and 2). -/
def Obligations.ParametersFixed : Prop :=
  (∀ (i : Instr) (s t : State), exec i s = .next t →
    t.peerW = s.peerW ∧ t.transportLossy = s.transportLossy ∧ t.trace = s.trace) ∧
  (∀ s t : State, step s = .next t →
    t.peerW = s.peerW ∧ t.transportLossy = s.transportLossy ∧
    ∃ i, i.wellFormed s.peerW s.transportLossy = true ∧ s.trace = encode i ++ t.trace)

/-- 60_exceptions.md R207: error flags are sticky, only the engine's RESET clears one, and an operation
raises at most one. -/
def Obligations.ErrorFlagsSticky : Prop :=
  ∀ (i : Instr) (s t : State), exec i s = .next t →
    (∀ f : ErrorFlag, s.errorFlag f = true → i.isResetOf f.side = false → t.errorFlag f = true) ∧
    (∀ f : ErrorFlag, i.isResetOf f.side = true → t.errorFlag f = false) ∧
    (∀ f g : ErrorFlag, s.errorFlag f = false → t.errorFlag f = true →
      s.errorFlag g = false → t.errorFlag g = true → f = g)

/-- The causes of the error flags (60_exceptions.md R204, R205, R206): each is raised by exactly the
operations the rule names. -/
def Obligations.CausesOfErrors : Prop :=
  ∀ (i : Instr) (s t : State), exec i s = .next t → i.isReset = false →
    (t.sender.errUnexp = true ↔
      s.sender.errUnexp = true ∨ i = .sDispBit0 ∨ i = .sDispBit1) ∧
    (t.receiver.errUnexp = true ↔ s.receiver.errUnexp = true ∨ i = .rDispAck) ∧
    (t.sender.errStart = true ↔
      s.sender.errStart = true ∨ (i.isStartOf .sender = true ∧ s.sender.fsm ≠ .idle)) ∧
    (t.receiver.errStart = true ↔
      s.receiver.errStart = true ∨ (i.isStartOf .receiver = true ∧ s.receiver.fsm ≠ .idle)) ∧
    (t.receiver.errOverrun = true ↔
      s.receiver.errOverrun = true ∨ (i.isBitDispatch = true ∧ s.receiver.fsm = .done))

/-- 40_sender.md R110: only an accepted S.START and S.RESET write the payload and the peer, so DATA is
constant from the one to the other; in DONE nothing but RESET changes payload, cursor or state. -/
def Obligations.SenderRegistersFinal : Prop :=
  ∀ (i : Instr) (s t : State), EngineInv s → exec i s = .next t → i.isResetOf .sender = false →
    (¬ (i.isStartOf .sender = true ∧ s.sender.fsm = .idle) →
      t.sender.payload = s.sender.payload ∧ t.sender.peer = s.sender.peer) ∧
    (s.sender.fsm ≠ .idle → t.data .sender = s.data .sender) ∧
    (s.sender.fsm = .done → t.sender.payload = s.sender.payload ∧
      t.sender.cursor = s.sender.cursor ∧ t.sender.fsm = .done)

/-- From the receiver's DONE until R.RESET no operation changes the accumulator, the cursor or the state,
so DATA is final (41_receiver.md R137, 20_memory.md R67). -/
def Obligations.ReceiverRegistersFinal : Prop :=
  ∀ (i : Instr) (s t : State), exec i s = .next t → i.isResetOf .receiver = false →
    s.receiver.fsm = .done →
      t.receiver.acc = s.receiver.acc ∧ t.receiver.cursor = s.receiver.cursor ∧
      t.receiver.fsm = .done ∧ t.data .receiver = s.data .receiver

/-- The sender's cursor counts bits sent (10_state.md R22, R33, 90_conflicts.md C1): but for S.RESET an
operation either leaves it and the sender silent, or advances it by one and sends the bit the old
cursor picks; the operations that do so are an accepted S.START, S.DISP.ACK below 32, and S.EMIT. -/
def Obligations.SenderCursorCountsBitsSent : Prop :=
  ∀ (i : Instr) (s t : State), EngineInv s → exec i s = .next t → i.isResetOf .sender = false →
    (t.sender.cursor = s.sender.cursor ∧ t.sender.ntfOut = none) ∨
    (t.sender.cursor.toNat = s.sender.cursor.toNat + 1 ∧ sentBit s.sender.cursor t ∧
      (i = .sEmit ∨ (i = .sDispAck ∧ s.sender.fsm = .run) ∨
        (i.isStartOf .sender = true ∧ s.sender.fsm = .idle)))

/-- 42_link.md R170: the receiver sends an ACK in exactly the transitions that accept a bit, whatever the
bit, and such a transition advances its cursor by one; any other but R.RESET leaves the cursor. -/
def Obligations.ReceiverAcknowledgesEachBit : Prop :=
  ∀ (i : Instr) (s t : State), EngineInv s → exec i s = .next t → i.isResetOf .receiver = false →
    (i.isBitDispatch = true ∧ s.receiver.fsm = .run →
      t.receiver.cursor.toNat = s.receiver.cursor.toNat + 1 ∧
      t.receiver.ntfOut = some ⟨.ack, s.receiver.peer⟩ ∧ t.wires.toSender.ack = true) ∧
    (¬ (i.isBitDispatch = true ∧ s.receiver.fsm = .run) →
      t.receiver.cursor = s.receiver.cursor ∧ t.receiver.ntfOut = none)

/-- 10_state.md R39: which transitions emit, and that none emits twice. -/
def Obligations.AtMostOneEmission : Prop :=
  ∀ (i : Instr) (s t : State), exec i s = .next t →
    ¬ (t.ntfOutValid .sender = true ∧ t.ntfOutValid .receiver = true) ∧
    (t.ntfOutValid .sender = true ↔
      (i.isStartOf .sender = true ∧ s.sender.fsm = .idle) ∨
      (i = .sDispAck ∧ s.sender.cursor.toNat < 32) ∨ i = .sEmit) ∧
    (t.ntfOutValid .receiver = true ↔ i.isBitDispatch = true ∧ s.receiver.fsm = .run) ∧
    (∀ n, t.sender.ntfOut = some n → n.kind ≠ .ack) ∧
    (∀ n, t.receiver.ntfOut = some n → n.kind = .ack)

/-- The frame of every operation by its agent: an engine's transition leaves the other engine's registers
and the wires to itself alone, and the transport's touches no register but latches (10_state.md R20,
20_memory.md R65, 60_exceptions.md R216). -/
def Obligations.AgentsTouchOnlyTheirOwn : Prop :=
  ∀ (i : Instr) (s t : State), exec i s = .next t →
    (i.agent = .engine .sender →
      t.receiver = { s.receiver with ntfOut := none } ∧ t.wires.toSender = s.wires.toSender) ∧
    (i.agent = .engine .receiver →
      t.sender = { s.sender with ntfOut := none } ∧ t.wires.toReceiver = s.wires.toReceiver) ∧
    (i.agent = .transport →
      t.sender = { s.sender with pend := t.sender.pend, ntfOut := none } ∧
      t.receiver = { s.receiver with pend := t.receiver.pend, ntfOut := none } ∧
      ∀ d k, (s.pend d).get k = true → (t.pend d).get k = true)

/-- The transport is causal (42_link.md R167, R232): a wire flag rises only in the transition in which the
other engine emits that kind, and falls only by its own delivery or loss, so not by any RESET. -/
def Obligations.WiresAreCausal : Prop :=
  ∀ (i : Instr) (s t : State) (d : Side) (k : Kind), exec i s = .next t →
    ((s.wire d).get k = false → (t.wire d).get k = true →
      (t.ntfOut (otherSide d)).map Notification.kind = some k) ∧
    ((t.ntfOut (otherSide d)).map Notification.kind = some k → (t.wire d).get k = true) ∧
    ((s.wire d).get k = true → (t.wire d).get k = false →
      i = Instr.tDeliver d k ∨ i = Instr.tDrop d k)

/-- 70_reset_and_hazards.md R238: a notification in flight to an engine that is reset is delivered
afterwards, held while the engine is IDLE, and dispatched after the next START. -/
def Obligations.StaleNotificationSurvivesReset : Prop :=
  ∀ (s : State) (d : Side) (k : Kind) (v : Word) (h : Peer), (s.wire d).get k = true →
    ∃ t u : State,
      execAll [if d = .sender then .sReset else .rReset, Instr.tDeliver d k] s = .next t ∧
      t.fsm d = .idle ∧ (t.pend d).get k = true ∧ ¬ enabled (dispOp d k) t ∧
      exec (if d = .sender then .sStart v h else .rStart h) t = .next u ∧
      enabled (dispOp d k) u

/-- Coalescing (42_link.md R162, R174, 20_memory.md R66): an arrival before the last one of its kind has
been observed leaves the latches as one arrival does, by LATCH and by T.DELIVER. -/
def Obligations.ArrivalsCoalesce : Prop :=
  (∀ (s : State) (d : Side) (k : Kind),
    execAll [latchOp d k, latchOp d k] s = execAll [latchOp d k] s) ∧
  (∀ (s t : State) (d : Side) (k : Kind), (s.pend d).get k = true →
    exec (Instr.tDeliver d k) s = .next t → ∀ d', t.pend d' = s.pend d')

/-- The LATCHes that a pulse pattern on `ntf_in` stands for (10_state.md R37, R38) may be taken in any order,
always complete, and leave each latch as the old latch OR its line, with nothing else changed and nothing
presented (no line pulsed: no transition). That the ports are fields of State is the model's choice (log
entry 3). -/
def Obligations.PulsesSetTheLatches : Prop :=
  (∀ (s : State) (d : Side) (k k' : Kind),
    execAll [latchOp d k, latchOp d k'] s = execAll [latchOp d k', latchOp d k] s) ∧
  (∀ s : State, execAll (pulses .sender 0#3) s = .next s ∧
    execAll (pulses .receiver 0#3) s = .next s) ∧
  (∀ (s : State) (ntfIn : BitVec 3), ntfIn ≠ 0#3 →
    execAll (pulses .sender ntfIn) s = .next { s with
      sender := { s.sender with
        pend := ⟨s.sender.pend.bitZero || ntfIn.getLsbD 0, s.sender.pend.bitOne || ntfIn.getLsbD 1,
          s.sender.pend.ack || ntfIn.getLsbD 2⟩
        ntfOut := none }
      receiver := { s.receiver with ntfOut := none } } ∧
    execAll (pulses .receiver ntfIn) s = .next { s with
      sender := { s.sender with ntfOut := none }
      receiver := { s.receiver with
        pend := ⟨s.receiver.pend.bitZero || ntfIn.getLsbD 0,
          s.receiver.pend.bitOne || ntfIn.getLsbD 1, s.receiver.pend.ack || ntfIn.getLsbD 2⟩
        ntfOut := none } })

/-! ### The lock-step link -/

/-- The lock-step invariant of 42_link.md R172 is kept by every link step that is no RESET and no START of
a started engine, on a lossy transport and on one that loses nothing, from every state that meets it
(and R33). The lossy form of the invariant is DEDUCED (log entry 18). -/
def Obligations.LockStepKept : Prop :=
  ∀ (i : Instr) (s t : State), EngineInv s → LockStep s → i.isLinkOp = true → i.isReset = false →
    (∀ d, i.isStartOf d = true → s.fsm d = .idle) → exec i s = .next t →
      EngineInv t ∧ LockStep t

/-- 42_link.md R172: the invariant, and at most one notification outstanding, in every state reachable from
`Clean` by steps without RESET and with at most one START per engine. The lossy form of the invariant is
DEDUCED (log entry 18). -/
def Obligations.LockStepReachable : Prop :=
  ∀ (is : List Instr) (s t : State), Clean s → cleanRun is → execAll is s = .next t →
    LockStep t ∧ t.nb + t.na ≤ 1

/-- A `Clean` link meets the lock-step invariant (42_link.md R172; its lossy form is DEDUCED, log entry 18). -/
def Obligations.CleanIsLockStep : Prop :=
  ∀ s : State, Clean s → LockStep s

/-- 42_link.md R62, R92: in lock step, with bit number `r` on the wire, `ROUND` carries it: it is bit
`31 - r` of the payload, the receiver writes it there, and both sides advance. -/
def Obligations.RoundCarriesOneBit : Prop :=
  ∀ s : State, EngineInv s → LockStep s → s.receiver.fsm = .run →
    let r := s.receiver.cursor.toNat
    let b := s.sender.payload.getLsbD (31 - r)
    (s.wires.toReceiver.get (bitKind b) = true →
      ∃ t : State, execAll (roundOps b) s = .next t ∧ LockStep t ∧
        t.receiver.cursor.toNat = r + 1 ∧ t.receiver.acc.getLsbD (31 - r) = b ∧
        t.sender.payload = s.sender.payload ∧
        t.sender.cursor.toNat = min 32 (r + 2) ∧
        (r < 31 → t.wires.toReceiver.get
          (bitKind (s.sender.payload.getLsbD (31 - (r + 1)))) = true))

/-- 42_link.md R173: every transfer ends with both engines DONE, the accumulator equal to the payload, no
notification pending and no error, after exactly 32 dispatches at each side, of which 31 at the sender
emit; it is quiescent as soon as the 32nd ACK has been dispatched; and the signed reading of what
arrived is the number sent. The form of an execution and of its fairness is DEDUCED (log entry 16). -/
def Obligations.RoundTrip : Prop :=
  ∀ (σ : Nat → State) (ev : Nat → Option Instr) (v : Word) (hs hr : Peer),
    Transfer σ ev v hs hr →
      (∃ N, ∀ n, N ≤ n →
        Quiescent (σ n) ∧ (σ n).sender.payload = v ∧ (σ n).receiver.acc = v ∧ (σ n).noError ∧
        countUpTo (bitDispatchAt ev) n = 32 ∧ countUpTo (ackDispatchAt ev) n = 32 ∧
        countUpTo (emittingAckAt σ ev) n = 31 ∧
        ∀ m : Int, -(2 ^ 31) ≤ m → m < 2 ^ 31 → v = BitVec.ofInt 32 m →
          signed32 (σ n).receiver.acc = m) ∧
      (∀ n, countUpTo (ackDispatchAt ev) n = 32 → Quiescent (σ n))

/-- 42_link.md R175: the end state of a transfer does not depend on the order of the two STARTs, or on
anything else that two transfers of the same payload between the same peers may differ in; and while the
sender is started and the receiver is not, the first bit is held, and R.START does not clear it. The form of an
execution and of its fairness is DEDUCED (log entry 16). -/
def Obligations.StartupOrderIrrelevant : Prop :=
  (∀ (σ σ' : Nat → State) (ev ev' : Nat → Option Instr) (v : Word) (hs hr : Peer),
    Transfer σ ev v hs hr → Transfer σ' ev' v hs hr → (σ 0).peerW = (σ' 0).peerW →
      ∃ N, ∀ m n, N ≤ m → N ≤ n → (σ m).registers = (σ' n).registers) ∧
  (∀ (s : State) (h : Peer), EngineInv s → LockStep s → s.transportLossy = false →
    s.sender.fsm ≠ .idle → s.receiver.fsm = .idle →
      s.outstandingAtReceiver (bitKind (s.sender.payload.getLsbD 31)) = true ∧
      ∃ t, exec (.rStart h) s = .next t ∧
        t.outstandingAtReceiver (bitKind (s.sender.payload.getLsbD 31)) = true)

/-- 42_link.md R180: losing the notification outstanding in lock step, unless it is the 32nd ACK (the
receiver is DONE then), leaves a stall in which the receiver is not DONE and no error flag is set; only
the sender can be DONE, if the lost one was the 32nd bit (DEDUCED, log entry 19). -/
def Obligations.LostNotificationStalls : Prop :=
  ∀ (s t : State) (d : Side) (k : Kind), EngineInv s → LockStep s → s.receiver.fsm ≠ .done →
    exec (Instr.tDrop d k) s = .next t →
      Stalled t ∧ NothingPending t ∧ t.receiver.fsm ≠ .done ∧ t.noError ∧
      (t.sender.fsm = .done → s.receiver.cursor.toNat = 31)

/-- 42_link.md R180, 70_reset_and_hazards.md R240: out of a stall with nothing pending and a started
sender no link step leads but RESET. What counts as a stall, and so the two
premises, is DEDUCED (log entry 19). -/
def Obligations.OnlyResetLeavesAStall : Prop :=
  ∀ (is : List Instr) (s t : State), Stalled s → NothingPending s → s.sender.fsm ≠ .idle →
    (∀ i ∈ is, i.isLinkOp = true ∧ i.isReset = false) → execAll is s = .next t →
      Stalled t ∧ NothingPending t

/-! ### What a host observes -/

/-- 10_state.md R35: the fields of STATUS, the reserved bits, its value at reset, and `done` as bit 2
(R36). -/
def Obligations.StatusFields : Prop :=
  ∀ s : State,
    (∀ d, (s.status d).extractLsb' 0 2 = (s.fsm d).code ∧
      (s.status d).getLsbD 2 = s.doneOut d ∧ (s.status d).getLsbD 3 = false ∧
      (s.status d).extractLsb' 4 6 = s.cursor d ∧ (s.status d).extractLsb' 10 2 = 0#2 ∧
      (∀ k : Kind, (s.status d).getLsbD (12 + k.code.toNat) = (s.pend d).get k) ∧
      (s.status d).getLsbD 15 = false ∧
      (s.status d).getLsbD 16 = s.errorFlag (.unexp d) ∧
      (s.status d).getLsbD 17 = s.errorFlag (.start d) ∧
      (s.status d).extractLsb' 19 12 = 0#12) ∧
    (s.status .sender).getLsbD 18 = false ∧
    (s.status .receiver).getLsbD 18 = s.receiver.errOverrun ∧
    (s.status .sender).getLsbD 31 = false ∧ (s.status .receiver).getLsbD 31 = true ∧
    State.reset.status .sender = 0x00000000#32 ∧ State.reset.status .receiver = 0x80000000#32

/-- `signed32` is the two's-complement reading (00_scope.md R7), and so a bijection between the words
and the range of a signed 32-bit integer. -/
def Obligations.Signed32IsTwosComplement : Prop :=
  (∀ v : Word, signed32 v = v.toInt ∧ -(2 ^ 31) ≤ signed32 v ∧ signed32 v < 2 ^ 31) ∧
  (∀ n : Int, -(2 ^ 31) ≤ n → n < 2 ^ 31 → signed32 (BitVec.ofInt 32 n) = n)

/-- 42_link.md R176: `bin32` is the 32-character most-significant-first expansion, and two sides that
print the same string hold the same word. -/
def Obligations.Bin32Rendering : Prop :=
  (∀ v : Word, (bin32 v).length = 32 ∧
    ∀ j < 32, (bin32 v)[j]? = some (if v.getLsbD (31 - j) then '1' else '0')) ∧
  (∀ v w : Word, bin32 v = bin32 w → v = w)

/-- 42_link.md R177: the numeral has a leading `-` exactly for a negative value (the numeral's format is
PRESUMED, log entry 11). -/
def Obligations.DecimalSign : Prop :=
  ∀ v : Word, ((decimal32 v).head? = some '-' ↔ signed32 v < 0)

/-! ### The clocked realisation -/

/-- 70_reset_and_hazards.md R244, a correct clock cycle as the model reads it (DEDUCED, log entry 17): whatever
sequence of an engine's operations it stands for, it leaves the other engine's registers, the wires to the
engine itself, the parameters and the trace alone; each wire flag to the other engine is then set exactly
if it was set or a notification of its kind was presented in the cycle; the sender presents bit kinds only,
the receiver ACKs only. -/
def Obligations.CorrectCycleFrame : Prop :=
  ∀ (d : Side) (s t : State) (out : List Notification), CorrectCycle d s t out →
    (d = .sender → { t.receiver with ntfOut := none } = { s.receiver with ntfOut := none }) ∧
    (d = .receiver → { t.sender with ntfOut := none } = { s.sender with ntfOut := none }) ∧
    t.wire d = s.wire d ∧ t.peerW = s.peerW ∧ t.transportLossy = s.transportLossy ∧
    t.trace = s.trace ∧
    (∀ k : Kind, (t.wire (otherSide d)).get k = true ↔
      (s.wire (otherSide d)).get k = true ∨ ∃ n ∈ out, n.kind = k) ∧
    (∀ n ∈ out, n.kind = .ack ↔ d = .receiver)
end

