-- ==== Sys2Proof/Laws/Decode.lean ====
section
/-! SUPPORT. What the operand takers and the decoder answer when they answer an operation. -/

namespace Sys2Proof

variable {peerW : Nat} {ws rest : List Nat} {i : Instr}

/-- The handle 0 fits every width. -/
@[simp] theorem peerFits_zero (w : Nat) : peerFits w 0 = true := rfl

theorem peerFits_iff (w : Nat) (h : Peer) : peerFits w h = true ↔ h = 0 ∨ h < 2 ^ w := by
  simp [peerFits]

theorem takePeer_ok {h : Peer} (e : takePeer peerW ws = .ok (h, rest)) :
    ws = h :: rest ∧ peerFits peerW h = true := by
  cases ws with
  | nil => cases e
  | cons x xs =>
    simp only [takePeer] at e
    split at e
    · cases e
      exact ⟨rfl, by assumption⟩
    · cases e

theorem takePayload_ok {v : Word} (e : takePayload ws = .ok (v, rest)) :
    ws = v.toNat :: rest := by
  cases ws with
  | nil => cases e
  | cons x xs =>
    simp only [takePayload] at e
    split at e
    · cases e
      simp
      omega
    · cases e

theorem takeSStart_ok (e : takeSStart peerW ws = .ok (i, rest)) :
    ∃ v h, i = .sStart v h ∧ ws = v.toNat :: h :: rest ∧ peerFits peerW h = true := by
  unfold takeSStart at e
  split at e
  · cases e
  · rename_i v ws' h1
    split at e
    · cases e
    · rename_i h rest' h2
      cases e
      obtain ⟨rfl, hf⟩ := takePeer_ok h2
      exact ⟨v, h, rfl, takePayload_ok h1, hf⟩

theorem takeRStart_ok (e : takeRStart peerW ws = .ok (i, rest)) :
    ∃ h, i = .rStart h ∧ ws = h :: rest ∧ peerFits peerW h = true := by
  unfold takeRStart at e
  split at e
  · cases e
  · rename_i h rest' h2
    cases e
    obtain ⟨rfl, hf⟩ := takePeer_ok h2
    exact ⟨h, rfl, rfl, hf⟩

theorem Kind.ofCode_eq_some {c : BitVec 2} {k : Kind} (h : Kind.ofCode c = some k) :
    k.code = c := by
  unfold Kind.ofCode at h
  split at h
  · cases h; exact Eq.symm (by assumption)
  split at h
  · cases h; exact Eq.symm (by assumption)
  split at h
  · cases h; exact Eq.symm (by assumption)
  · cases h

@[simp] theorem Kind.ofCode_code (k : Kind) : Kind.ofCode k.code = some k := by
  cases k <;> rfl

/-- An operation without operand words answers what its kind code names, and takes no word. -/
theorem byKind_ok {c : BitVec 2} {f : Kind → Instr} (e : byKind c ws f = .ok (i, rest)) :
    ∃ k : Kind, k.code = c ∧ i = f k ∧ rest = ws := by
  unfold byKind at e
  split at e
  · rename_i k h
    cases e
    exact ⟨k, Kind.ofCode_eq_some h, rfl, rfl⟩
  · cases e

/-! The word of each family, and that it carries no operand words (30_encoding.md R88). -/

theorem operandWords_sDisp (k : Kind) : operandWords (Instr.sDisp k) = [] := by cases k <;> rfl
theorem operandWords_sLatch (k : Kind) : operandWords (Instr.sLatch k) = [] := by cases k <;> rfl
theorem operandWords_rDisp (k : Kind) : operandWords (Instr.rDisp k) = [] := by cases k <;> rfl
theorem operandWords_rLatch (k : Kind) : operandWords (Instr.rLatch k) = [] := by cases k <;> rfl
theorem operandWords_tDeliver (d : Side) (k : Kind) :
    operandWords (Instr.tDeliver d k) = [] := by cases k <;> rfl
theorem operandWords_tDrop (d : Side) (k : Kind) :
    operandWords (Instr.tDrop d k) = [] := by cases k <;> rfl

/-- A trace that decodes begins with a 6-bit word. -/
theorem decode_ok (e : decode peerW ws = .ok (i, rest)) :
    ∃ w ws', ws = w :: ws' ∧ w < 64 ∧
      decodeEvent peerW (BitVec.ofNat 6 w) ws' = .ok (i, rest) := by
  cases ws with
  | nil => cases e
  | cons w ws' =>
    simp only [decode] at e
    split at e
    · exact ⟨w, ws', rfl, by assumption, e⟩
    · cases e

end Sys2Proof
end

