-- ==== Sys2Proof/Laws/State.lean ====
section
/-! SUPPORT. One lemma per field per update of State: what each shared update writes and what it leaves. -/

namespace Sys2Proof.Machine

/-! `silent`: the start of a transition. -/

@[simp] theorem State.silent_sender_payload (s : State) :
    s.silent.sender.payload = s.sender.payload := rfl
@[simp] theorem State.silent_sender_cursor (s : State) :
    s.silent.sender.cursor = s.sender.cursor := rfl
@[simp] theorem State.silent_sender_fsm (s : State) : s.silent.sender.fsm = s.sender.fsm := rfl
@[simp] theorem State.silent_sender_peer (s : State) : s.silent.sender.peer = s.sender.peer := rfl
@[simp] theorem State.silent_sender_pend (s : State) : s.silent.sender.pend = s.sender.pend := rfl
@[simp] theorem State.silent_sender_errUnexp (s : State) :
    s.silent.sender.errUnexp = s.sender.errUnexp := rfl
@[simp] theorem State.silent_sender_errStart (s : State) :
    s.silent.sender.errStart = s.sender.errStart := rfl
@[simp] theorem State.silent_sender_ntfOut (s : State) : s.silent.sender.ntfOut = none := rfl
@[simp] theorem State.silent_receiver_acc (s : State) :
    s.silent.receiver.acc = s.receiver.acc := rfl
@[simp] theorem State.silent_receiver_cursor (s : State) :
    s.silent.receiver.cursor = s.receiver.cursor := rfl
@[simp] theorem State.silent_receiver_fsm (s : State) :
    s.silent.receiver.fsm = s.receiver.fsm := rfl
@[simp] theorem State.silent_receiver_peer (s : State) :
    s.silent.receiver.peer = s.receiver.peer := rfl
@[simp] theorem State.silent_receiver_pend (s : State) :
    s.silent.receiver.pend = s.receiver.pend := rfl
@[simp] theorem State.silent_receiver_errUnexp (s : State) :
    s.silent.receiver.errUnexp = s.receiver.errUnexp := rfl
@[simp] theorem State.silent_receiver_errStart (s : State) :
    s.silent.receiver.errStart = s.receiver.errStart := rfl
@[simp] theorem State.silent_receiver_errOverrun (s : State) :
    s.silent.receiver.errOverrun = s.receiver.errOverrun := rfl
@[simp] theorem State.silent_receiver_ntfOut (s : State) : s.silent.receiver.ntfOut = none := rfl
@[simp] theorem State.silent_wires (s : State) : s.silent.wires = s.wires := rfl
@[simp] theorem State.silent_peerW (s : State) : s.silent.peerW = s.peerW := rfl
@[simp] theorem State.silent_transportLossy (s : State) :
    s.silent.transportLossy = s.transportLossy := rfl
@[simp] theorem State.silent_trace (s : State) : s.silent.trace = s.trace := rfl

/-! `setPend`: a latch written. -/

@[simp] theorem State.setPendS_sender_payload (s : State) (k : Kind) (b : Bool) :
    (s.setPend .sender k b).sender.payload = s.sender.payload := rfl
@[simp] theorem State.setPendS_sender_cursor (s : State) (k : Kind) (b : Bool) :
    (s.setPend .sender k b).sender.cursor = s.sender.cursor := rfl
@[simp] theorem State.setPendS_sender_fsm (s : State) (k : Kind) (b : Bool) :
    (s.setPend .sender k b).sender.fsm = s.sender.fsm := rfl
@[simp] theorem State.setPendS_sender_peer (s : State) (k : Kind) (b : Bool) :
    (s.setPend .sender k b).sender.peer = s.sender.peer := rfl
@[simp] theorem State.setPendS_sender_pend (s : State) (k : Kind) (b : Bool) :
    (s.setPend .sender k b).sender.pend = s.sender.pend.set k b := rfl
@[simp] theorem State.setPendS_sender_errUnexp (s : State) (k : Kind) (b : Bool) :
    (s.setPend .sender k b).sender.errUnexp = s.sender.errUnexp := rfl
@[simp] theorem State.setPendS_sender_errStart (s : State) (k : Kind) (b : Bool) :
    (s.setPend .sender k b).sender.errStart = s.sender.errStart := rfl
@[simp] theorem State.setPendS_sender_ntfOut (s : State) (k : Kind) (b : Bool) :
    (s.setPend .sender k b).sender.ntfOut = s.sender.ntfOut := rfl
@[simp] theorem State.setPendS_receiver (s : State) (k : Kind) (b : Bool) :
    (s.setPend .sender k b).receiver = s.receiver := rfl
@[simp] theorem State.setPendS_wires (s : State) (k : Kind) (b : Bool) :
    (s.setPend .sender k b).wires = s.wires := rfl
@[simp] theorem State.setPendS_peerW (s : State) (k : Kind) (b : Bool) :
    (s.setPend .sender k b).peerW = s.peerW := rfl
@[simp] theorem State.setPendS_transportLossy (s : State) (k : Kind) (b : Bool) :
    (s.setPend .sender k b).transportLossy = s.transportLossy := rfl
@[simp] theorem State.setPendS_trace (s : State) (k : Kind) (b : Bool) :
    (s.setPend .sender k b).trace = s.trace := rfl
@[simp] theorem State.setPendR_sender (s : State) (k : Kind) (b : Bool) :
    (s.setPend .receiver k b).sender = s.sender := rfl
@[simp] theorem State.setPendR_receiver_acc (s : State) (k : Kind) (b : Bool) :
    (s.setPend .receiver k b).receiver.acc = s.receiver.acc := rfl
@[simp] theorem State.setPendR_receiver_cursor (s : State) (k : Kind) (b : Bool) :
    (s.setPend .receiver k b).receiver.cursor = s.receiver.cursor := rfl
@[simp] theorem State.setPendR_receiver_fsm (s : State) (k : Kind) (b : Bool) :
    (s.setPend .receiver k b).receiver.fsm = s.receiver.fsm := rfl
@[simp] theorem State.setPendR_receiver_peer (s : State) (k : Kind) (b : Bool) :
    (s.setPend .receiver k b).receiver.peer = s.receiver.peer := rfl
@[simp] theorem State.setPendR_receiver_pend (s : State) (k : Kind) (b : Bool) :
    (s.setPend .receiver k b).receiver.pend = s.receiver.pend.set k b := rfl
@[simp] theorem State.setPendR_receiver_errUnexp (s : State) (k : Kind) (b : Bool) :
    (s.setPend .receiver k b).receiver.errUnexp = s.receiver.errUnexp := rfl
@[simp] theorem State.setPendR_receiver_errStart (s : State) (k : Kind) (b : Bool) :
    (s.setPend .receiver k b).receiver.errStart = s.receiver.errStart := rfl
@[simp] theorem State.setPendR_receiver_errOverrun (s : State) (k : Kind) (b : Bool) :
    (s.setPend .receiver k b).receiver.errOverrun = s.receiver.errOverrun := rfl
@[simp] theorem State.setPendR_receiver_ntfOut (s : State) (k : Kind) (b : Bool) :
    (s.setPend .receiver k b).receiver.ntfOut = s.receiver.ntfOut := rfl
@[simp] theorem State.setPendR_wires (s : State) (k : Kind) (b : Bool) :
    (s.setPend .receiver k b).wires = s.wires := rfl
@[simp] theorem State.setPendR_peerW (s : State) (k : Kind) (b : Bool) :
    (s.setPend .receiver k b).peerW = s.peerW := rfl
@[simp] theorem State.setPendR_transportLossy (s : State) (k : Kind) (b : Bool) :
    (s.setPend .receiver k b).transportLossy = s.transportLossy := rfl
@[simp] theorem State.setPendR_trace (s : State) (k : Kind) (b : Bool) :
    (s.setPend .receiver k b).trace = s.trace := rfl

/-! `raise`: an error flag set. -/

@[simp] theorem State.raiseUnexpS_sender_payload (s : State) :
    (s.raiseUnexp .sender).sender.payload = s.sender.payload := rfl
@[simp] theorem State.raiseUnexpS_sender_cursor (s : State) :
    (s.raiseUnexp .sender).sender.cursor = s.sender.cursor := rfl
@[simp] theorem State.raiseUnexpS_sender_fsm (s : State) :
    (s.raiseUnexp .sender).sender.fsm = s.sender.fsm := rfl
@[simp] theorem State.raiseUnexpS_sender_peer (s : State) :
    (s.raiseUnexp .sender).sender.peer = s.sender.peer := rfl
@[simp] theorem State.raiseUnexpS_sender_pend (s : State) :
    (s.raiseUnexp .sender).sender.pend = s.sender.pend := rfl
@[simp] theorem State.raiseUnexpS_sender_errUnexp (s : State) :
    (s.raiseUnexp .sender).sender.errUnexp = true := rfl
@[simp] theorem State.raiseUnexpS_sender_errStart (s : State) :
    (s.raiseUnexp .sender).sender.errStart = s.sender.errStart := rfl
@[simp] theorem State.raiseUnexpS_sender_ntfOut (s : State) :
    (s.raiseUnexp .sender).sender.ntfOut = s.sender.ntfOut := rfl
@[simp] theorem State.raiseUnexpS_receiver (s : State) :
    (s.raiseUnexp .sender).receiver = s.receiver := rfl
@[simp] theorem State.raiseUnexpS_wires (s : State) : (s.raiseUnexp .sender).wires = s.wires := rfl
@[simp] theorem State.raiseUnexpS_peerW (s : State) : (s.raiseUnexp .sender).peerW = s.peerW := rfl
@[simp] theorem State.raiseUnexpS_transportLossy (s : State) :
    (s.raiseUnexp .sender).transportLossy = s.transportLossy := rfl
@[simp] theorem State.raiseUnexpS_trace (s : State) : (s.raiseUnexp .sender).trace = s.trace := rfl
@[simp] theorem State.raiseUnexpR_sender (s : State) :
    (s.raiseUnexp .receiver).sender = s.sender := rfl
@[simp] theorem State.raiseUnexpR_receiver_acc (s : State) :
    (s.raiseUnexp .receiver).receiver.acc = s.receiver.acc := rfl
@[simp] theorem State.raiseUnexpR_receiver_cursor (s : State) :
    (s.raiseUnexp .receiver).receiver.cursor = s.receiver.cursor := rfl
@[simp] theorem State.raiseUnexpR_receiver_fsm (s : State) :
    (s.raiseUnexp .receiver).receiver.fsm = s.receiver.fsm := rfl
@[simp] theorem State.raiseUnexpR_receiver_peer (s : State) :
    (s.raiseUnexp .receiver).receiver.peer = s.receiver.peer := rfl
@[simp] theorem State.raiseUnexpR_receiver_pend (s : State) :
    (s.raiseUnexp .receiver).receiver.pend = s.receiver.pend := rfl
@[simp] theorem State.raiseUnexpR_receiver_errUnexp (s : State) :
    (s.raiseUnexp .receiver).receiver.errUnexp = true := rfl
@[simp] theorem State.raiseUnexpR_receiver_errStart (s : State) :
    (s.raiseUnexp .receiver).receiver.errStart = s.receiver.errStart := rfl
@[simp] theorem State.raiseUnexpR_receiver_errOverrun (s : State) :
    (s.raiseUnexp .receiver).receiver.errOverrun = s.receiver.errOverrun := rfl
@[simp] theorem State.raiseUnexpR_receiver_ntfOut (s : State) :
    (s.raiseUnexp .receiver).receiver.ntfOut = s.receiver.ntfOut := rfl
@[simp] theorem State.raiseUnexpR_wires (s : State) :
    (s.raiseUnexp .receiver).wires = s.wires := rfl
@[simp] theorem State.raiseUnexpR_peerW (s : State) :
    (s.raiseUnexp .receiver).peerW = s.peerW := rfl
@[simp] theorem State.raiseUnexpR_transportLossy (s : State) :
    (s.raiseUnexp .receiver).transportLossy = s.transportLossy := rfl
@[simp] theorem State.raiseUnexpR_trace (s : State) :
    (s.raiseUnexp .receiver).trace = s.trace := rfl
@[simp] theorem State.raiseStartS_sender_payload (s : State) :
    (s.raiseStart .sender).sender.payload = s.sender.payload := rfl
@[simp] theorem State.raiseStartS_sender_cursor (s : State) :
    (s.raiseStart .sender).sender.cursor = s.sender.cursor := rfl
@[simp] theorem State.raiseStartS_sender_fsm (s : State) :
    (s.raiseStart .sender).sender.fsm = s.sender.fsm := rfl
@[simp] theorem State.raiseStartS_sender_peer (s : State) :
    (s.raiseStart .sender).sender.peer = s.sender.peer := rfl
@[simp] theorem State.raiseStartS_sender_pend (s : State) :
    (s.raiseStart .sender).sender.pend = s.sender.pend := rfl
@[simp] theorem State.raiseStartS_sender_errUnexp (s : State) :
    (s.raiseStart .sender).sender.errUnexp = s.sender.errUnexp := rfl
@[simp] theorem State.raiseStartS_sender_errStart (s : State) :
    (s.raiseStart .sender).sender.errStart = true := rfl
@[simp] theorem State.raiseStartS_sender_ntfOut (s : State) :
    (s.raiseStart .sender).sender.ntfOut = s.sender.ntfOut := rfl
@[simp] theorem State.raiseStartS_receiver (s : State) :
    (s.raiseStart .sender).receiver = s.receiver := rfl
@[simp] theorem State.raiseStartS_wires (s : State) : (s.raiseStart .sender).wires = s.wires := rfl
@[simp] theorem State.raiseStartS_peerW (s : State) : (s.raiseStart .sender).peerW = s.peerW := rfl
@[simp] theorem State.raiseStartS_transportLossy (s : State) :
    (s.raiseStart .sender).transportLossy = s.transportLossy := rfl
@[simp] theorem State.raiseStartS_trace (s : State) : (s.raiseStart .sender).trace = s.trace := rfl
@[simp] theorem State.raiseStartR_sender (s : State) :
    (s.raiseStart .receiver).sender = s.sender := rfl
@[simp] theorem State.raiseStartR_receiver_acc (s : State) :
    (s.raiseStart .receiver).receiver.acc = s.receiver.acc := rfl
@[simp] theorem State.raiseStartR_receiver_cursor (s : State) :
    (s.raiseStart .receiver).receiver.cursor = s.receiver.cursor := rfl
@[simp] theorem State.raiseStartR_receiver_fsm (s : State) :
    (s.raiseStart .receiver).receiver.fsm = s.receiver.fsm := rfl
@[simp] theorem State.raiseStartR_receiver_peer (s : State) :
    (s.raiseStart .receiver).receiver.peer = s.receiver.peer := rfl
@[simp] theorem State.raiseStartR_receiver_pend (s : State) :
    (s.raiseStart .receiver).receiver.pend = s.receiver.pend := rfl
@[simp] theorem State.raiseStartR_receiver_errUnexp (s : State) :
    (s.raiseStart .receiver).receiver.errUnexp = s.receiver.errUnexp := rfl
@[simp] theorem State.raiseStartR_receiver_errStart (s : State) :
    (s.raiseStart .receiver).receiver.errStart = true := rfl
@[simp] theorem State.raiseStartR_receiver_errOverrun (s : State) :
    (s.raiseStart .receiver).receiver.errOverrun = s.receiver.errOverrun := rfl
@[simp] theorem State.raiseStartR_receiver_ntfOut (s : State) :
    (s.raiseStart .receiver).receiver.ntfOut = s.receiver.ntfOut := rfl
@[simp] theorem State.raiseStartR_wires (s : State) :
    (s.raiseStart .receiver).wires = s.wires := rfl
@[simp] theorem State.raiseStartR_peerW (s : State) :
    (s.raiseStart .receiver).peerW = s.peerW := rfl
@[simp] theorem State.raiseStartR_transportLossy (s : State) :
    (s.raiseStart .receiver).transportLossy = s.transportLossy := rfl
@[simp] theorem State.raiseStartR_trace (s : State) :
    (s.raiseStart .receiver).trace = s.trace := rfl
@[simp] theorem State.raiseOverrun_sender (s : State) : s.raiseOverrun.sender = s.sender := rfl
@[simp] theorem State.raiseOverrun_receiver_acc (s : State) :
    s.raiseOverrun.receiver.acc = s.receiver.acc := rfl
@[simp] theorem State.raiseOverrun_receiver_cursor (s : State) :
    s.raiseOverrun.receiver.cursor = s.receiver.cursor := rfl
@[simp] theorem State.raiseOverrun_receiver_fsm (s : State) :
    s.raiseOverrun.receiver.fsm = s.receiver.fsm := rfl
@[simp] theorem State.raiseOverrun_receiver_peer (s : State) :
    s.raiseOverrun.receiver.peer = s.receiver.peer := rfl
@[simp] theorem State.raiseOverrun_receiver_pend (s : State) :
    s.raiseOverrun.receiver.pend = s.receiver.pend := rfl
@[simp] theorem State.raiseOverrun_receiver_errUnexp (s : State) :
    s.raiseOverrun.receiver.errUnexp = s.receiver.errUnexp := rfl
@[simp] theorem State.raiseOverrun_receiver_errStart (s : State) :
    s.raiseOverrun.receiver.errStart = s.receiver.errStart := rfl
@[simp] theorem State.raiseOverrun_receiver_errOverrun (s : State) :
    s.raiseOverrun.receiver.errOverrun = true := rfl
@[simp] theorem State.raiseOverrun_receiver_ntfOut (s : State) :
    s.raiseOverrun.receiver.ntfOut = s.receiver.ntfOut := rfl
@[simp] theorem State.raiseOverrun_wires (s : State) : s.raiseOverrun.wires = s.wires := rfl
@[simp] theorem State.raiseOverrun_peerW (s : State) : s.raiseOverrun.peerW = s.peerW := rfl
@[simp] theorem State.raiseOverrun_transportLossy (s : State) :
    s.raiseOverrun.transportLossy = s.transportLossy := rfl
@[simp] theorem State.raiseOverrun_trace (s : State) : s.raiseOverrun.trace = s.trace := rfl

/-! `setWire`: an in-flight flag written. -/

@[simp] theorem State.setWireS_sender (s : State) (k : Kind) (b : Bool) :
    (s.setWire .sender k b).sender = s.sender := rfl
@[simp] theorem State.setWireS_receiver (s : State) (k : Kind) (b : Bool) :
    (s.setWire .sender k b).receiver = s.receiver := rfl
@[simp] theorem State.setWireS_wires_toSender (s : State) (k : Kind) (b : Bool) :
    (s.setWire .sender k b).wires.toSender = s.wires.toSender.set k b := rfl
@[simp] theorem State.setWireS_wires_toReceiver (s : State) (k : Kind) (b : Bool) :
    (s.setWire .sender k b).wires.toReceiver = s.wires.toReceiver := rfl
@[simp] theorem State.setWireS_peerW (s : State) (k : Kind) (b : Bool) :
    (s.setWire .sender k b).peerW = s.peerW := rfl
@[simp] theorem State.setWireS_transportLossy (s : State) (k : Kind) (b : Bool) :
    (s.setWire .sender k b).transportLossy = s.transportLossy := rfl
@[simp] theorem State.setWireS_trace (s : State) (k : Kind) (b : Bool) :
    (s.setWire .sender k b).trace = s.trace := rfl
@[simp] theorem State.setWireR_sender (s : State) (k : Kind) (b : Bool) :
    (s.setWire .receiver k b).sender = s.sender := rfl
@[simp] theorem State.setWireR_receiver (s : State) (k : Kind) (b : Bool) :
    (s.setWire .receiver k b).receiver = s.receiver := rfl
@[simp] theorem State.setWireR_wires_toSender (s : State) (k : Kind) (b : Bool) :
    (s.setWire .receiver k b).wires.toSender = s.wires.toSender := rfl
@[simp] theorem State.setWireR_wires_toReceiver (s : State) (k : Kind) (b : Bool) :
    (s.setWire .receiver k b).wires.toReceiver = s.wires.toReceiver.set k b := rfl
@[simp] theorem State.setWireR_peerW (s : State) (k : Kind) (b : Bool) :
    (s.setWire .receiver k b).peerW = s.peerW := rfl
@[simp] theorem State.setWireR_transportLossy (s : State) (k : Kind) (b : Bool) :
    (s.setWire .receiver k b).transportLossy = s.transportLossy := rfl
@[simp] theorem State.setWireR_trace (s : State) (k : Kind) (b : Bool) :
    (s.setWire .receiver k b).trace = s.trace := rfl

/-! `emit`: a notification presented and in flight. -/

@[simp] theorem State.emitS_sender_payload (s : State) (k : Kind) :
    (s.emit .sender k).sender.payload = s.sender.payload := rfl
@[simp] theorem State.emitS_sender_cursor (s : State) (k : Kind) :
    (s.emit .sender k).sender.cursor = s.sender.cursor := rfl
@[simp] theorem State.emitS_sender_fsm (s : State) (k : Kind) :
    (s.emit .sender k).sender.fsm = s.sender.fsm := rfl
@[simp] theorem State.emitS_sender_peer (s : State) (k : Kind) :
    (s.emit .sender k).sender.peer = s.sender.peer := rfl
@[simp] theorem State.emitS_sender_pend (s : State) (k : Kind) :
    (s.emit .sender k).sender.pend = s.sender.pend := rfl
@[simp] theorem State.emitS_sender_errUnexp (s : State) (k : Kind) :
    (s.emit .sender k).sender.errUnexp = s.sender.errUnexp := rfl
@[simp] theorem State.emitS_sender_errStart (s : State) (k : Kind) :
    (s.emit .sender k).sender.errStart = s.sender.errStart := rfl
@[simp] theorem State.emitS_sender_ntfOut (s : State) (k : Kind) :
    (s.emit .sender k).sender.ntfOut = some ⟨k, s.sender.peer⟩ := rfl
@[simp] theorem State.emitS_receiver (s : State) (k : Kind) :
    (s.emit .sender k).receiver = s.receiver := rfl
@[simp] theorem State.emitS_wires_toSender (s : State) (k : Kind) :
    (s.emit .sender k).wires.toSender = s.wires.toSender := rfl
@[simp] theorem State.emitS_wires_toReceiver (s : State) (k : Kind) :
    (s.emit .sender k).wires.toReceiver = s.wires.toReceiver.set k true := rfl
@[simp] theorem State.emitS_peerW (s : State) (k : Kind) : (s.emit .sender k).peerW = s.peerW := rfl
@[simp] theorem State.emitS_transportLossy (s : State) (k : Kind) :
    (s.emit .sender k).transportLossy = s.transportLossy := rfl
@[simp] theorem State.emitS_trace (s : State) (k : Kind) : (s.emit .sender k).trace = s.trace := rfl
@[simp] theorem State.emitR_sender (s : State) (k : Kind) :
    (s.emit .receiver k).sender = s.sender := rfl
@[simp] theorem State.emitR_receiver_acc (s : State) (k : Kind) :
    (s.emit .receiver k).receiver.acc = s.receiver.acc := rfl
@[simp] theorem State.emitR_receiver_cursor (s : State) (k : Kind) :
    (s.emit .receiver k).receiver.cursor = s.receiver.cursor := rfl
@[simp] theorem State.emitR_receiver_fsm (s : State) (k : Kind) :
    (s.emit .receiver k).receiver.fsm = s.receiver.fsm := rfl
@[simp] theorem State.emitR_receiver_peer (s : State) (k : Kind) :
    (s.emit .receiver k).receiver.peer = s.receiver.peer := rfl
@[simp] theorem State.emitR_receiver_pend (s : State) (k : Kind) :
    (s.emit .receiver k).receiver.pend = s.receiver.pend := rfl
@[simp] theorem State.emitR_receiver_errUnexp (s : State) (k : Kind) :
    (s.emit .receiver k).receiver.errUnexp = s.receiver.errUnexp := rfl
@[simp] theorem State.emitR_receiver_errStart (s : State) (k : Kind) :
    (s.emit .receiver k).receiver.errStart = s.receiver.errStart := rfl
@[simp] theorem State.emitR_receiver_errOverrun (s : State) (k : Kind) :
    (s.emit .receiver k).receiver.errOverrun = s.receiver.errOverrun := rfl
@[simp] theorem State.emitR_receiver_ntfOut (s : State) (k : Kind) :
    (s.emit .receiver k).receiver.ntfOut = some ⟨k, s.receiver.peer⟩ := rfl
@[simp] theorem State.emitR_wires_toSender (s : State) (k : Kind) :
    (s.emit .receiver k).wires.toSender = s.wires.toSender.set k true := rfl
@[simp] theorem State.emitR_wires_toReceiver (s : State) (k : Kind) :
    (s.emit .receiver k).wires.toReceiver = s.wires.toReceiver := rfl
@[simp] theorem State.emitR_peerW (s : State) (k : Kind) :
    (s.emit .receiver k).peerW = s.peerW := rfl
@[simp] theorem State.emitR_transportLossy (s : State) (k : Kind) :
    (s.emit .receiver k).transportLossy = s.transportLossy := rfl
@[simp] theorem State.emitR_trace (s : State) (k : Kind) :
    (s.emit .receiver k).trace = s.trace := rfl

/-! `sendBit`: the sender's next bit. -/

@[simp] theorem State.sendBit_sender_payload (s : State) (i : Nat) :
    (s.sendBit i).sender.payload = s.sender.payload := rfl
@[simp] theorem State.sendBit_sender_cursor (s : State) (i : Nat) :
    (s.sendBit i).sender.cursor = s.sender.cursor + 1#6 := rfl
@[simp] theorem State.sendBit_sender_fsm (s : State) (i : Nat) :
    (s.sendBit i).sender.fsm = fsmAfter s.sender.fsm (s.sender.cursor + 1#6) := rfl
@[simp] theorem State.sendBit_sender_peer (s : State) (i : Nat) :
    (s.sendBit i).sender.peer = s.sender.peer := rfl
@[simp] theorem State.sendBit_sender_pend (s : State) (i : Nat) :
    (s.sendBit i).sender.pend = s.sender.pend := rfl
@[simp] theorem State.sendBit_sender_errUnexp (s : State) (i : Nat) :
    (s.sendBit i).sender.errUnexp = s.sender.errUnexp := rfl
@[simp] theorem State.sendBit_sender_errStart (s : State) (i : Nat) :
    (s.sendBit i).sender.errStart = s.sender.errStart := rfl
@[simp] theorem State.sendBit_sender_ntfOut (s : State) (i : Nat) :
    (s.sendBit i).sender.ntfOut = some ⟨bitKind (s.sender.payload.getLsbD i), s.sender.peer⟩ := rfl
@[simp] theorem State.sendBit_receiver (s : State) (i : Nat) :
    (s.sendBit i).receiver = s.receiver := rfl
@[simp] theorem State.sendBit_wires_toSender (s : State) (i : Nat) :
    (s.sendBit i).wires.toSender = s.wires.toSender := rfl
@[simp] theorem State.sendBit_wires_toReceiver (s : State) (i : Nat) :
    (s.sendBit i).wires.toReceiver = s.wires.toReceiver.set (bitKind (s.sender.payload.getLsbD i)) true := rfl
@[simp] theorem State.sendBit_peerW (s : State) (i : Nat) : (s.sendBit i).peerW = s.peerW := rfl
@[simp] theorem State.sendBit_transportLossy (s : State) (i : Nat) :
    (s.sendBit i).transportLossy = s.transportLossy := rfl
@[simp] theorem State.sendBit_trace (s : State) (i : Nat) : (s.sendBit i).trace = s.trace := rfl

/-! `takeBit`: the receiver's next bit. -/

@[simp] theorem State.takeBit_sender (s : State) (i : Nat) (b : Bool) :
    (s.takeBit i b).sender = s.sender := rfl
@[simp] theorem State.takeBit_receiver_acc (s : State) (i : Nat) (b : Bool) :
    (s.takeBit i b).receiver.acc = setBit s.receiver.acc i b := rfl
@[simp] theorem State.takeBit_receiver_cursor (s : State) (i : Nat) (b : Bool) :
    (s.takeBit i b).receiver.cursor = s.receiver.cursor + 1#6 := rfl
@[simp] theorem State.takeBit_receiver_fsm (s : State) (i : Nat) (b : Bool) :
    (s.takeBit i b).receiver.fsm = fsmAfter s.receiver.fsm (s.receiver.cursor + 1#6) := rfl
@[simp] theorem State.takeBit_receiver_peer (s : State) (i : Nat) (b : Bool) :
    (s.takeBit i b).receiver.peer = s.receiver.peer := rfl
@[simp] theorem State.takeBit_receiver_pend (s : State) (i : Nat) (b : Bool) :
    (s.takeBit i b).receiver.pend = s.receiver.pend := rfl
@[simp] theorem State.takeBit_receiver_errUnexp (s : State) (i : Nat) (b : Bool) :
    (s.takeBit i b).receiver.errUnexp = s.receiver.errUnexp := rfl
@[simp] theorem State.takeBit_receiver_errStart (s : State) (i : Nat) (b : Bool) :
    (s.takeBit i b).receiver.errStart = s.receiver.errStart := rfl
@[simp] theorem State.takeBit_receiver_errOverrun (s : State) (i : Nat) (b : Bool) :
    (s.takeBit i b).receiver.errOverrun = s.receiver.errOverrun := rfl
@[simp] theorem State.takeBit_receiver_ntfOut (s : State) (i : Nat) (b : Bool) :
    (s.takeBit i b).receiver.ntfOut = some ⟨.ack, s.receiver.peer⟩ := rfl
@[simp] theorem State.takeBit_wires_toSender (s : State) (i : Nat) (b : Bool) :
    (s.takeBit i b).wires.toSender = s.wires.toSender.set .ack true := rfl
@[simp] theorem State.takeBit_wires_toReceiver (s : State) (i : Nat) (b : Bool) :
    (s.takeBit i b).wires.toReceiver = s.wires.toReceiver := rfl
@[simp] theorem State.takeBit_peerW (s : State) (i : Nat) (b : Bool) :
    (s.takeBit i b).peerW = s.peerW := rfl
@[simp] theorem State.takeBit_transportLossy (s : State) (i : Nat) (b : Bool) :
    (s.takeBit i b).transportLossy = s.transportLossy := rfl
@[simp] theorem State.takeBit_trace (s : State) (i : Nat) (b : Bool) :
    (s.takeBit i b).trace = s.trace := rfl

/-! `withTrace`: the trace consumed. -/

@[simp] theorem State.withTrace_sender (s : State) (ws : List Nat) :
    (s.withTrace ws).sender = s.sender := rfl
@[simp] theorem State.withTrace_receiver (s : State) (ws : List Nat) :
    (s.withTrace ws).receiver = s.receiver := rfl
@[simp] theorem State.withTrace_wires (s : State) (ws : List Nat) :
    (s.withTrace ws).wires = s.wires := rfl
@[simp] theorem State.withTrace_peerW (s : State) (ws : List Nat) :
    (s.withTrace ws).peerW = s.peerW := rfl
@[simp] theorem State.withTrace_transportLossy (s : State) (ws : List Nat) :
    (s.withTrace ws).transportLossy = s.transportLossy := rfl
@[simp] theorem State.withTrace_trace (s : State) (ws : List Nat) :
    (s.withTrace ws).trace = ws := rfl

/-! `latch` is a latch set. -/

@[simp] theorem State.latch_eq_setPend (s : State) (d : Side) (k : Kind) :
    s.latch d k = s.setPend d k true := rfl

/-! The accessors by engine. -/

@[simp] theorem State.fsm_sender (s : State) : s.fsm .sender = s.sender.fsm := rfl
@[simp] theorem State.fsm_receiver (s : State) : s.fsm .receiver = s.receiver.fsm := rfl
@[simp] theorem State.cursor_sender (s : State) : s.cursor .sender = s.sender.cursor := rfl
@[simp] theorem State.cursor_receiver (s : State) : s.cursor .receiver = s.receiver.cursor := rfl
@[simp] theorem State.pend_sender (s : State) : s.pend .sender = s.sender.pend := rfl
@[simp] theorem State.pend_receiver (s : State) : s.pend .receiver = s.receiver.pend := rfl
@[simp] theorem State.wire_sender (s : State) : s.wire .sender = s.wires.toSender := rfl
@[simp] theorem State.wire_receiver (s : State) : s.wire .receiver = s.wires.toReceiver := rfl
@[simp] theorem State.ntfOut_sender (s : State) : s.ntfOut .sender = s.sender.ntfOut := rfl
@[simp] theorem State.ntfOut_receiver (s : State) : s.ntfOut .receiver = s.receiver.ntfOut := rfl
@[simp] theorem otherSide_sender : otherSide .sender = .receiver := rfl
@[simp] theorem otherSide_receiver : otherSide .receiver = .sender := rfl

end Sys2Proof.Machine
end

