-- ==== Sys2Proof/Laws/Operands.lean ====
section
/-! SUPPORT. The operand forms: flags by kind, the bit a cursor picks, the cursor's advance, a bit
written. -/

namespace Sys2Proof.Machine

@[simp] theorem KindFlags.get_set_same (f : KindFlags) (k : Kind) (b : Bool) :
    (f.set k b).get k = b := by
  cases k <;> rfl

theorem KindFlags.get_set (f : KindFlags) (k k' : Kind) (b : Bool) :
    (f.set k b).get k' = if k' = k then b else f.get k' := by
  cases k <;> cases k' <;> rfl

@[simp] theorem KindFlags.get_set_of_ne (f : KindFlags) {k k' : Kind} (b : Bool) (h : k' ≠ k) :
    (f.set k b).get k' = f.get k' := by
  rw [KindFlags.get_set, if_neg h]

@[simp] theorem KindFlags.get_none (k : Kind) : KindFlags.none.get k = false := by
  cases k <;> rfl

/-- Two flag triples with the same flags are the same. -/
theorem KindFlags.ext_get {f g : KindFlags} (h : ∀ k, f.get k = g.get k) : f = g := by
  cases f; cases g
  have h0 := h .bitZero
  have h1 := h .bitOne
  have h2 := h .ack
  simp_all [KindFlags.get]

/-- A flag set again stays as it is: coalescing (10_state.md R25). -/
theorem KindFlags.set_set_same (f : KindFlags) (k : Kind) (b b' : Bool) :
    (f.set k b).set k b' = f.set k b' := by
  cases k <;> rfl

theorem KindFlags.set_comm (f : KindFlags) {k k' : Kind} (b b' : Bool) (h : k ≠ k') :
    (f.set k b).set k' b' = (f.set k' b').set k b := by
  cases k <;> cases k' <;> first | rfl | exact absurd rfl h

theorem KindFlags.set_get_self (f : KindFlags) (k : Kind) : f.set k (f.get k) = f := by
  cases k <;> rfl

@[simp] theorem bitKind_ne_ack (b : Bool) : bitKind b ≠ .ack := by
  cases b <;> decide

@[simp] theorem bitKind_inj (b c : Bool) : bitKind b = bitKind c ↔ b = c := by
  cases b <;> cases c <;> decide

/-! The two bit kinds against the ACK. -/

@[simp] theorem KindFlags.set_bitKind_ack (f : KindFlags) (b v : Bool) :
    (f.set (bitKind b) v).ack = f.ack := by
  cases b <;> rfl

@[simp] theorem KindFlags.set_ack_ack (f : KindFlags) (v : Bool) : (f.set .ack v).ack = v := rfl

@[simp] theorem KindFlags.set_ack_bitZero (f : KindFlags) (v : Bool) :
    (f.set .ack v).bitZero = f.bitZero := rfl

@[simp] theorem KindFlags.set_ack_bitOne (f : KindFlags) (v : Bool) :
    (f.set .ack v).bitOne = f.bitOne := rfl

@[simp] theorem KindFlags.get_ack (f : KindFlags) : f.get .ack = f.ack := rfl

/-- How many of the two bit flags are set, after one of them is written. -/
theorem KindFlags.bits_set (f : KindFlags) (b v : Bool) :
    (f.set (bitKind b) v).bitZero.toNat + (f.set (bitKind b) v).bitOne.toNat +
      (f.get (bitKind b)).toNat = f.bitZero.toNat + f.bitOne.toNat + v.toNat := by
  cases b <;> simp [bitKind, KindFlags.set, KindFlags.get] <;> omega

theorem KindFlags.bits_pos {f : KindFlags} {b : Bool} (h : f.get (bitKind b) = true) :
    1 ≤ f.bitZero.toNat + f.bitOne.toNat := by
  cases b <;> simp [bitKind, KindFlags.get] at h <;> simp [h]

theorem KindFlags.get_bitKind_of_bits {f : KindFlags} {b : Bool}
    (h : f.bitZero.toNat + f.bitOne.toNat = 0) : f.get (bitKind b) = false := by
  by_contra hf
  have := KindFlags.bits_pos (f := f) (b := b) (by simpa using hf)
  omega

/-- A kind is ACK or carries a bit (30_encoding.md R81). -/
theorem kind_cases (k : Kind) : k = .ack ∨ ∃ b, k = bitKind b := by
  cases k
  · exact .inr ⟨false, rfl⟩
  · exact .inr ⟨true, rfl⟩
  · exact .inl rfl

theorem bitIndex_of_lt {c : Cursor} (h : c.toNat < 32) : bitIndex c = some (31 - c.toNat) := by
  simp [bitIndex, h]

theorem bitIndex_of_ge {c : Cursor} (h : 32 ≤ c.toNat) : bitIndex c = none := by
  simp [bitIndex, Nat.not_lt.mpr h]

/-- A legal cursor below 32 advances without wrapping (40_sender.md R103). -/
theorem cursor_succ {c : Cursor} (h : c.toNat < 32) : (c + 1#6).toNat = c.toNat + 1 := by
  rw [BitVec.toNat_add]
  simp
  omega

theorem cursor_eq_iff (c : Cursor) (n : Nat) (hn : n < 64) :
    c = BitVec.ofNat 6 n ↔ c.toNat = n := by
  constructor
  · rintro rfl
    simp [Nat.mod_eq_of_lt hn]
  · intro h
    exact BitVec.eq_of_toNat_eq (by simp [h, Nat.mod_eq_of_lt hn])

/-- After the advance the engine is DONE exactly when the old cursor was 31 (40_sender.md R103). -/
theorem fsmAfter_succ {c : Cursor} (f : Fsm) (h : c.toNat < 32) :
    fsmAfter f (c + 1#6) = if c.toNat = 31 then .done else f := by
  have := cursor_succ h
  have e : c + 1#6 = 32#6 ↔ c.toNat = 31 := by
    rw [show (32#6 : Cursor) = BitVec.ofNat 6 32 from rfl, cursor_eq_iff _ 32 (by omega), this]
    omega
  simp [fsmAfter, e]

/-- A bit written is read back, and no other bit changes (00_scope.md R8). -/
theorem getLsbD_setBit (v : Word) {i : Nat} (hi : i < 32) (b : Bool) (j : Nat) :
    (setBit v i b).getLsbD j = if j = i then b else v.getLsbD j := by
  by_cases hj : j < 32
  · cases b <;> by_cases e : j = i <;>
      simp [setBit, hj, e] <;> omega
  · have hne : j ≠ i := by omega
    rw [if_neg hne, BitVec.getLsbD_of_ge _ _ (by omega), BitVec.getLsbD_of_ge _ _ (by omega)]

end Sys2Proof.Machine
end

