-- ==== Sys2Proof/Laws/Ops.lean ====
section
/-! SUPPORT. One lemma per shared operation: everything it can do. -/

namespace Sys2Proof.Machine

variable {s t : State}

theorem dispEnabled_iff (s : State) (d : Side) (k : Kind) :
    s.dispEnabled d k = true ↔ s.fsm d ≠ .idle ∧ (s.pend d).get k = true := by
  simp [State.dispEnabled]

theorem dispatch_of_enabled {d : Side} {k : Kind} {f : State → Result}
    (h : s.dispEnabled d k = true) : dispatch d k f s = f (s.silent.setPend d k false) := by
  simp [dispatch, h]

theorem dispatch_of_not_enabled {d : Side} {k : Kind} {f : State → Result}
    (h : ¬ s.dispEnabled d k = true) : dispatch d k f s = .refused .notEnabled := by
  simp [dispatch, h]

theorem dispatch_next_iff {d : Side} {k : Kind} {f : State → Result} :
    dispatch d k f s = .next t ↔
      s.dispEnabled d k = true ∧ f (s.silent.setPend d k false) = .next t := by
  by_cases h : s.dispEnabled d k = true
  · simp [dispatch_of_enabled h, h]
  · simp [dispatch_of_not_enabled h, h]

theorem emitBit_of_lt (h : s.sender.cursor.toNat < 32) :
    emitBit s = .next (s.sendBit (31 - s.sender.cursor.toNat)) := by
  simp [emitBit, bitIndex_of_lt h]

theorem emitBit_of_ge (h : 32 ≤ s.sender.cursor.toNat) : emitBit s = .fault .illegalCursor := by
  simp [emitBit, bitIndex_of_ge h]

theorem emitBit_next_iff :
    emitBit s = .next t ↔
      s.sender.cursor.toNat < 32 ∧ t = s.sendBit (31 - s.sender.cursor.toNat) := by
  by_cases h : s.sender.cursor.toNat < 32
  · simp [emitBit_of_lt h, h, eq_comm]
  · simp [emitBit_of_ge (Nat.not_lt.mp h), h]

theorem acceptBit_of_lt {b : Bool} (h : s.receiver.cursor.toNat < 32) :
    acceptBit b s = .next (s.takeBit (31 - s.receiver.cursor.toNat) b) := by
  simp [acceptBit, bitIndex_of_lt h]

theorem acceptBit_of_ge {b : Bool} (h : 32 ≤ s.receiver.cursor.toNat) :
    acceptBit b s = .fault .illegalCursor := by
  simp [acceptBit, bitIndex_of_ge h]

theorem acceptBit_next_iff {b : Bool} :
    acceptBit b s = .next t ↔
      s.receiver.cursor.toNat < 32 ∧ t = s.takeBit (31 - s.receiver.cursor.toNat) b := by
  by_cases h : s.receiver.cursor.toNat < 32
  · simp [acceptBit_of_lt h, h, eq_comm]
  · simp [acceptBit_of_ge (Nat.not_lt.mp h), h]

theorem onBit_next_iff {b : Bool} :
    onBit b s = .next t ↔
      (s.receiver.fsm = .run ∧ s.receiver.cursor.toNat < 32 ∧
        t = s.takeBit (31 - s.receiver.cursor.toNat) b) ∨
      (s.receiver.fsm ≠ .run ∧ t = s.raiseOverrun) := by
  by_cases h : s.receiver.fsm = .run
  · simp [onBit, h, acceptBit_next_iff]
  · simp [onBit, h, eq_comm]

theorem onAck_next_iff :
    onAck s = .next t ↔
      (s.sender.cursor.toNat < 32 ∧ t = s.sendBit (31 - s.sender.cursor.toNat)) ∨
      (s.sender.cursor.toNat = 32 ∧ t = s) := by
  have e : s.sender.cursor = 32#6 ↔ s.sender.cursor.toNat = 32 :=
    cursor_eq_iff s.sender.cursor 32 (by omega)
  by_cases h : s.sender.cursor.toNat < 32
  · simp [onAck, h, emitBit_next_iff]
    omega
  · by_cases h' : s.sender.cursor.toNat = 32
    · simp [onAck, e, h', eq_comm]
    · simp [onAck, e, h, h']

theorem deliver_next_iff {d : Side} {k : Kind} :
    deliver d k s = .next t ↔
      (s.wire d).get k = true ∧ t = (s.silent.setWire d k false).setPend d k true := by
  by_cases h : (s.wire d).get k = true
  · simp [deliver, h, eq_comm]
  · simp [deliver, h]

theorem drop_next_iff {d : Side} {k : Kind} :
    drop d k s = .next t ↔
      s.transportLossy = true ∧ (s.wire d).get k = true ∧ t = s.silent.setWire d k false := by
  by_cases h : (s.wire d).get k = true
  · by_cases hl : s.transportLossy = true
    · simp [drop, h, hl, eq_comm]
    · simp [drop, h, hl]
  · simp [drop, h]

end Sys2Proof.Machine
end

