-- ==== Sys2Proof/Laws/Syntax.lean ====
section
/-! SUPPORT. The rows of one shape, taken by kind: what each classification says of them, and when they
are enabled. -/

namespace Sys2Proof.Machine

@[simp] theorem agent_sDisp (k : Kind) : (Instr.sDisp k).agent = .engine .sender := by
  cases k <;> rfl
@[simp] theorem agent_sLatch (k : Kind) : (Instr.sLatch k).agent = .engine .sender := by
  cases k <;> rfl
@[simp] theorem agent_rDisp (k : Kind) : (Instr.rDisp k).agent = .engine .receiver := by
  cases k <;> rfl
@[simp] theorem agent_rLatch (k : Kind) : (Instr.rLatch k).agent = .engine .receiver := by
  cases k <;> rfl
@[simp] theorem agent_tDeliver (d : Side) (k : Kind) : (Instr.tDeliver d k).agent = .transport := by
  cases k <;> rfl
@[simp] theorem agent_tDrop (d : Side) (k : Kind) : (Instr.tDrop d k).agent = .transport := by
  cases k <;> rfl
@[simp] theorem isResetOf_sDisp (k : Kind) (e : Side) : Instr.isResetOf e (Instr.sDisp k) = false := by
  cases e <;> cases k <;> rfl
@[simp] theorem isResetOf_sLatch (k : Kind) (e : Side) : Instr.isResetOf e (Instr.sLatch k) = false := by
  cases e <;> cases k <;> rfl
@[simp] theorem isResetOf_rDisp (k : Kind) (e : Side) : Instr.isResetOf e (Instr.rDisp k) = false := by
  cases e <;> cases k <;> rfl
@[simp] theorem isResetOf_rLatch (k : Kind) (e : Side) : Instr.isResetOf e (Instr.rLatch k) = false := by
  cases e <;> cases k <;> rfl
@[simp] theorem isResetOf_tDeliver (d : Side) (k : Kind) (e : Side) : Instr.isResetOf e (Instr.tDeliver d k) = false := by
  cases e <;> cases k <;> rfl
@[simp] theorem isResetOf_tDrop (d : Side) (k : Kind) (e : Side) : Instr.isResetOf e (Instr.tDrop d k) = false := by
  cases e <;> cases k <;> rfl
@[simp] theorem isStartOf_sDisp (k : Kind) (e : Side) : Instr.isStartOf e (Instr.sDisp k) = false := by
  cases e <;> cases k <;> rfl
@[simp] theorem isStartOf_sLatch (k : Kind) (e : Side) : Instr.isStartOf e (Instr.sLatch k) = false := by
  cases e <;> cases k <;> rfl
@[simp] theorem isStartOf_rDisp (k : Kind) (e : Side) : Instr.isStartOf e (Instr.rDisp k) = false := by
  cases e <;> cases k <;> rfl
@[simp] theorem isStartOf_rLatch (k : Kind) (e : Side) : Instr.isStartOf e (Instr.rLatch k) = false := by
  cases e <;> cases k <;> rfl
@[simp] theorem isStartOf_tDeliver (d : Side) (k : Kind) (e : Side) : Instr.isStartOf e (Instr.tDeliver d k) = false := by
  cases e <;> cases k <;> rfl
@[simp] theorem isStartOf_tDrop (d : Side) (k : Kind) (e : Side) : Instr.isStartOf e (Instr.tDrop d k) = false := by
  cases e <;> cases k <;> rfl
@[simp] theorem isLatch_sDisp (k : Kind) : (Instr.sDisp k).isLatch = false := by
  cases k <;> rfl
@[simp] theorem isLatch_sLatch (k : Kind) : (Instr.sLatch k).isLatch = true := by
  cases k <;> rfl
@[simp] theorem isLatch_rDisp (k : Kind) : (Instr.rDisp k).isLatch = false := by
  cases k <;> rfl
@[simp] theorem isLatch_rLatch (k : Kind) : (Instr.rLatch k).isLatch = true := by
  cases k <;> rfl
@[simp] theorem isLatch_tDeliver (d : Side) (k : Kind) : (Instr.tDeliver d k).isLatch = false := by
  cases k <;> rfl
@[simp] theorem isLatch_tDrop (d : Side) (k : Kind) : (Instr.tDrop d k).isLatch = false := by
  cases k <;> rfl
@[simp] theorem isDispOrDeliver_sDisp (k : Kind) : (Instr.sDisp k).isDispOrDeliver = true := by
  cases k <;> rfl
@[simp] theorem isDispOrDeliver_sLatch (k : Kind) : (Instr.sLatch k).isDispOrDeliver = false := by
  cases k <;> rfl
@[simp] theorem isDispOrDeliver_rDisp (k : Kind) : (Instr.rDisp k).isDispOrDeliver = true := by
  cases k <;> rfl
@[simp] theorem isDispOrDeliver_rLatch (k : Kind) : (Instr.rLatch k).isDispOrDeliver = false := by
  cases k <;> rfl
@[simp] theorem isDispOrDeliver_tDeliver (d : Side) (k : Kind) : (Instr.tDeliver d k).isDispOrDeliver = true := by
  cases k <;> rfl
@[simp] theorem isDispOrDeliver_tDrop (d : Side) (k : Kind) : (Instr.tDrop d k).isDispOrDeliver = false := by
  cases k <;> rfl
@[simp] theorem isBitDispatch_sDisp (k : Kind) : (Instr.sDisp k).isBitDispatch = false := by
  cases k <;> rfl
@[simp] theorem isBitDispatch_sLatch (k : Kind) : (Instr.sLatch k).isBitDispatch = false := by
  cases k <;> rfl
@[simp] theorem isBitDispatch_rDisp (k : Kind) : (Instr.rDisp k).isBitDispatch = decide (k ≠ .ack) := by
  cases k <;> rfl
@[simp] theorem isBitDispatch_rLatch (k : Kind) : (Instr.rLatch k).isBitDispatch = false := by
  cases k <;> rfl
@[simp] theorem isBitDispatch_tDeliver (d : Side) (k : Kind) : (Instr.tDeliver d k).isBitDispatch = false := by
  cases k <;> rfl
@[simp] theorem isBitDispatch_tDrop (d : Side) (k : Kind) : (Instr.tDrop d k).isBitDispatch = false := by
  cases k <;> rfl
@[simp] theorem presentable_sDisp (k : Kind) : (Instr.sDisp k).presentable = true := by
  cases k <;> rfl
@[simp] theorem presentable_sLatch (k : Kind) : (Instr.sLatch k).presentable = true := by
  cases k <;> rfl
@[simp] theorem presentable_rDisp (k : Kind) : (Instr.rDisp k).presentable = true := by
  cases k <;> rfl
@[simp] theorem presentable_rLatch (k : Kind) : (Instr.rLatch k).presentable = true := by
  cases k <;> rfl
@[simp] theorem presentable_tDeliver (d : Side) (k : Kind) : (Instr.tDeliver d k).presentable = true := by
  cases k <;> rfl
@[simp] theorem presentable_tDrop (d : Side) (k : Kind) : (Instr.tDrop d k).presentable = true := by
  cases k <;> rfl
@[simp] theorem isDrop_sDisp (k : Kind) : (Instr.sDisp k).isDrop = false := by
  cases k <;> rfl
@[simp] theorem isDrop_sLatch (k : Kind) : (Instr.sLatch k).isDrop = false := by
  cases k <;> rfl
@[simp] theorem isDrop_rDisp (k : Kind) : (Instr.rDisp k).isDrop = false := by
  cases k <;> rfl
@[simp] theorem isDrop_rLatch (k : Kind) : (Instr.rLatch k).isDrop = false := by
  cases k <;> rfl
@[simp] theorem isDrop_tDeliver (d : Side) (k : Kind) : (Instr.tDeliver d k).isDrop = false := by
  cases k <;> rfl
@[simp] theorem isDrop_tDrop (d : Side) (k : Kind) : (Instr.tDrop d k).isDrop = true := by
  cases k <;> rfl
@[simp] theorem operandsFit_sDisp (k : Kind) (w : Nat) : Instr.operandsFit w (Instr.sDisp k) = true := by
  cases k <;> rfl
@[simp] theorem operandsFit_sLatch (k : Kind) (w : Nat) : Instr.operandsFit w (Instr.sLatch k) = true := by
  cases k <;> rfl
@[simp] theorem operandsFit_rDisp (k : Kind) (w : Nat) : Instr.operandsFit w (Instr.rDisp k) = true := by
  cases k <;> rfl
@[simp] theorem operandsFit_rLatch (k : Kind) (w : Nat) : Instr.operandsFit w (Instr.rLatch k) = true := by
  cases k <;> rfl
@[simp] theorem operandsFit_tDeliver (d : Side) (k : Kind) (w : Nat) : Instr.operandsFit w (Instr.tDeliver d k) = true := by
  cases k <;> rfl
@[simp] theorem operandsFit_tDrop (d : Side) (k : Kind) (w : Nat) : Instr.operandsFit w (Instr.tDrop d k) = true := by
  cases k <;> rfl
@[simp] theorem isReset_sDisp (k : Kind) : (Instr.sDisp k).isReset = false := by
  cases k <;> rfl
@[simp] theorem isReset_sLatch (k : Kind) : (Instr.sLatch k).isReset = false := by
  cases k <;> rfl
@[simp] theorem isReset_rDisp (k : Kind) : (Instr.rDisp k).isReset = false := by
  cases k <;> rfl
@[simp] theorem isReset_rLatch (k : Kind) : (Instr.rLatch k).isReset = false := by
  cases k <;> rfl
@[simp] theorem isReset_tDeliver (d : Side) (k : Kind) : (Instr.tDeliver d k).isReset = false := by
  cases k <;> rfl
@[simp] theorem isReset_tDrop (d : Side) (k : Kind) : (Instr.tDrop d k).isReset = false := by
  cases k <;> rfl
@[simp] theorem isStart_sDisp (k : Kind) : (Instr.sDisp k).isStart = false := by
  cases k <;> rfl
@[simp] theorem isStart_sLatch (k : Kind) : (Instr.sLatch k).isStart = false := by
  cases k <;> rfl
@[simp] theorem isStart_rDisp (k : Kind) : (Instr.rDisp k).isStart = false := by
  cases k <;> rfl
@[simp] theorem isStart_rLatch (k : Kind) : (Instr.rLatch k).isStart = false := by
  cases k <;> rfl
@[simp] theorem isStart_tDeliver (d : Side) (k : Kind) : (Instr.tDeliver d k).isStart = false := by
  cases k <;> rfl
@[simp] theorem isStart_tDrop (d : Side) (k : Kind) : (Instr.tDrop d k).isStart = false := by
  cases k <;> rfl
@[simp] theorem isLinkOp_sDisp (k : Kind) : (Instr.sDisp k).isLinkOp = true := by
  cases k <;> rfl
@[simp] theorem isLinkOp_sLatch (k : Kind) : (Instr.sLatch k).isLinkOp = false := by
  cases k <;> rfl
@[simp] theorem isLinkOp_rDisp (k : Kind) : (Instr.rDisp k).isLinkOp = true := by
  cases k <;> rfl
@[simp] theorem isLinkOp_rLatch (k : Kind) : (Instr.rLatch k).isLinkOp = false := by
  cases k <;> rfl
@[simp] theorem isLinkOp_tDeliver (d : Side) (k : Kind) : (Instr.tDeliver d k).isLinkOp = true := by
  cases k <;> rfl
@[simp] theorem isLinkOp_tDrop (d : Side) (k : Kind) : (Instr.tDrop d k).isLinkOp = true := by
  cases k <;> rfl

/-! The rows that stand alone. -/

@[simp] theorem agent_sReset : Instr.agent .sReset = .engine .sender := rfl
@[simp] theorem agent_rReset : Instr.agent .rReset = .engine .receiver := rfl
@[simp] theorem agent_sStart (v : Word) (h : Peer) : Instr.agent (.sStart v h) = .engine .sender := rfl
@[simp] theorem agent_rStart (h : Peer) : Instr.agent (.rStart h) = .engine .receiver := rfl
@[simp] theorem agent_sEmit : Instr.agent .sEmit = .engine .sender := rfl
@[simp] theorem agent_sDispAck : Instr.agent .sDispAck = .engine .sender := rfl
@[simp] theorem agent_rDispAck : Instr.agent .rDispAck = .engine .receiver := rfl
@[simp] theorem isResetOf_sReset (e : Side) : Instr.isResetOf e .sReset = decide (e = .sender) := by
  cases e <;> rfl
@[simp] theorem isResetOf_rReset (e : Side) : Instr.isResetOf e .rReset = decide (e = .receiver) := by
  cases e <;> rfl
@[simp] theorem isResetOf_sStart (v : Word) (h : Peer) (e : Side) : Instr.isResetOf e (.sStart v h) = false := by
  cases e <;> rfl
@[simp] theorem isResetOf_rStart (h : Peer) (e : Side) : Instr.isResetOf e (.rStart h) = false := by
  cases e <;> rfl
@[simp] theorem isResetOf_sEmit (e : Side) : Instr.isResetOf e .sEmit = false := by
  cases e <;> rfl
@[simp] theorem isResetOf_sDispAck (e : Side) : Instr.isResetOf e .sDispAck = false := by
  cases e <;> rfl
@[simp] theorem isResetOf_rDispAck (e : Side) : Instr.isResetOf e .rDispAck = false := by
  cases e <;> rfl
@[simp] theorem isStartOf_sReset (e : Side) : Instr.isStartOf e .sReset = false := by
  cases e <;> rfl
@[simp] theorem isStartOf_rReset (e : Side) : Instr.isStartOf e .rReset = false := by
  cases e <;> rfl
@[simp] theorem isStartOf_sStart (v : Word) (h : Peer) (e : Side) : Instr.isStartOf e (.sStart v h) = decide (e = .sender) := by
  cases e <;> rfl
@[simp] theorem isStartOf_rStart (h : Peer) (e : Side) : Instr.isStartOf e (.rStart h) = decide (e = .receiver) := by
  cases e <;> rfl
@[simp] theorem isStartOf_sEmit (e : Side) : Instr.isStartOf e .sEmit = false := by
  cases e <;> rfl
@[simp] theorem isStartOf_sDispAck (e : Side) : Instr.isStartOf e .sDispAck = false := by
  cases e <;> rfl
@[simp] theorem isStartOf_rDispAck (e : Side) : Instr.isStartOf e .rDispAck = false := by
  cases e <;> rfl
@[simp] theorem isReset_sReset : Instr.isReset .sReset = true := rfl
@[simp] theorem isReset_rReset : Instr.isReset .rReset = true := rfl
@[simp] theorem isReset_sStart (v : Word) (h : Peer) : Instr.isReset (.sStart v h) = false := rfl
@[simp] theorem isReset_rStart (h : Peer) : Instr.isReset (.rStart h) = false := rfl
@[simp] theorem isReset_sEmit : Instr.isReset .sEmit = false := rfl
@[simp] theorem isReset_sDispAck : Instr.isReset .sDispAck = false := rfl
@[simp] theorem isReset_rDispAck : Instr.isReset .rDispAck = false := rfl
@[simp] theorem isStart_sReset : Instr.isStart .sReset = false := rfl
@[simp] theorem isStart_rReset : Instr.isStart .rReset = false := rfl
@[simp] theorem isStart_sStart (v : Word) (h : Peer) : Instr.isStart (.sStart v h) = true := rfl
@[simp] theorem isStart_rStart (h : Peer) : Instr.isStart (.rStart h) = true := rfl
@[simp] theorem isStart_sEmit : Instr.isStart .sEmit = false := rfl
@[simp] theorem isStart_sDispAck : Instr.isStart .sDispAck = false := rfl
@[simp] theorem isStart_rDispAck : Instr.isStart .rDispAck = false := rfl
@[simp] theorem isLatch_sReset : Instr.isLatch .sReset = false := rfl
@[simp] theorem isLatch_rReset : Instr.isLatch .rReset = false := rfl
@[simp] theorem isLatch_sStart (v : Word) (h : Peer) : Instr.isLatch (.sStart v h) = false := rfl
@[simp] theorem isLatch_rStart (h : Peer) : Instr.isLatch (.rStart h) = false := rfl
@[simp] theorem isLatch_sEmit : Instr.isLatch .sEmit = false := rfl
@[simp] theorem isLatch_sDispAck : Instr.isLatch .sDispAck = false := rfl
@[simp] theorem isLatch_rDispAck : Instr.isLatch .rDispAck = false := rfl
@[simp] theorem isDispOrDeliver_sReset : Instr.isDispOrDeliver .sReset = false := rfl
@[simp] theorem isDispOrDeliver_rReset : Instr.isDispOrDeliver .rReset = false := rfl
@[simp] theorem isDispOrDeliver_sStart (v : Word) (h : Peer) : Instr.isDispOrDeliver (.sStart v h) = false := rfl
@[simp] theorem isDispOrDeliver_rStart (h : Peer) : Instr.isDispOrDeliver (.rStart h) = false := rfl
@[simp] theorem isDispOrDeliver_sEmit : Instr.isDispOrDeliver .sEmit = false := rfl
@[simp] theorem isDispOrDeliver_sDispAck : Instr.isDispOrDeliver .sDispAck = true := rfl
@[simp] theorem isDispOrDeliver_rDispAck : Instr.isDispOrDeliver .rDispAck = true := rfl
@[simp] theorem isBitDispatch_sReset : Instr.isBitDispatch .sReset = false := rfl
@[simp] theorem isBitDispatch_rReset : Instr.isBitDispatch .rReset = false := rfl
@[simp] theorem isBitDispatch_sStart (v : Word) (h : Peer) : Instr.isBitDispatch (.sStart v h) = false := rfl
@[simp] theorem isBitDispatch_rStart (h : Peer) : Instr.isBitDispatch (.rStart h) = false := rfl
@[simp] theorem isBitDispatch_sEmit : Instr.isBitDispatch .sEmit = false := rfl
@[simp] theorem isBitDispatch_sDispAck : Instr.isBitDispatch .sDispAck = false := rfl
@[simp] theorem isBitDispatch_rDispAck : Instr.isBitDispatch .rDispAck = false := rfl
@[simp] theorem presentable_sReset : Instr.presentable .sReset = true := rfl
@[simp] theorem presentable_rReset : Instr.presentable .rReset = true := rfl
@[simp] theorem presentable_sStart (v : Word) (h : Peer) : Instr.presentable (.sStart v h) = true := rfl
@[simp] theorem presentable_rStart (h : Peer) : Instr.presentable (.rStart h) = true := rfl
@[simp] theorem presentable_sEmit : Instr.presentable .sEmit = false := rfl
@[simp] theorem presentable_sDispAck : Instr.presentable .sDispAck = true := rfl
@[simp] theorem presentable_rDispAck : Instr.presentable .rDispAck = true := rfl
@[simp] theorem isDrop_sReset : Instr.isDrop .sReset = false := rfl
@[simp] theorem isDrop_rReset : Instr.isDrop .rReset = false := rfl
@[simp] theorem isDrop_sStart (v : Word) (h : Peer) : Instr.isDrop (.sStart v h) = false := rfl
@[simp] theorem isDrop_rStart (h : Peer) : Instr.isDrop (.rStart h) = false := rfl
@[simp] theorem isDrop_sEmit : Instr.isDrop .sEmit = false := rfl
@[simp] theorem isDrop_sDispAck : Instr.isDrop .sDispAck = false := rfl
@[simp] theorem isDrop_rDispAck : Instr.isDrop .rDispAck = false := rfl
@[simp] theorem isLinkOp_sReset : Instr.isLinkOp .sReset = true := rfl
@[simp] theorem isLinkOp_rReset : Instr.isLinkOp .rReset = true := rfl
@[simp] theorem isLinkOp_sStart (v : Word) (h : Peer) : Instr.isLinkOp (.sStart v h) = true := rfl
@[simp] theorem isLinkOp_rStart (h : Peer) : Instr.isLinkOp (.rStart h) = true := rfl
@[simp] theorem isLinkOp_sEmit : Instr.isLinkOp .sEmit = false := rfl
@[simp] theorem isLinkOp_sDispAck : Instr.isLinkOp .sDispAck = true := rfl
@[simp] theorem isLinkOp_rDispAck : Instr.isLinkOp .rDispAck = true := rfl

/-! Which rows a family holds. -/

@[simp] theorem sDisp_eq_sDispAck (k : Kind) : Instr.sDisp k = .sDispAck ↔ k = .ack := by
  cases k <;> decide
@[simp] theorem sDisp_eq_sDispBit0 (k : Kind) : Instr.sDisp k = .sDispBit0 ↔ k = .bitZero := by
  cases k <;> decide
@[simp] theorem sDisp_eq_sDispBit1 (k : Kind) : Instr.sDisp k = .sDispBit1 ↔ k = .bitOne := by
  cases k <;> decide
@[simp] theorem rDisp_eq_rDispAck (k : Kind) : Instr.rDisp k = .rDispAck ↔ k = .ack := by
  cases k <;> decide
@[simp] theorem rDisp_ne_sDispAck (k : Kind) : Instr.rDisp k ≠ .sDispAck := by
  cases k <;> decide
@[simp] theorem rDisp_ne_sDispBit0 (k : Kind) : Instr.rDisp k ≠ .sDispBit0 := by
  cases k <;> decide
@[simp] theorem rDisp_ne_sDispBit1 (k : Kind) : Instr.rDisp k ≠ .sDispBit1 := by
  cases k <;> decide
@[simp] theorem rDisp_ne_sEmit (k : Kind) : Instr.rDisp k ≠ .sEmit := by cases k <;> decide
@[simp] theorem sDisp_ne_rDispAck (k : Kind) : Instr.sDisp k ≠ .rDispAck := by
  cases k <;> decide
@[simp] theorem sDisp_ne_sEmit (k : Kind) : Instr.sDisp k ≠ .sEmit := by cases k <;> decide
@[simp] theorem sLatch_ne_sDispBit0 (k : Kind) : Instr.sLatch k ≠ .sDispBit0 := by cases k <;> nofun
@[simp] theorem sLatch_ne_sDispBit1 (k : Kind) : Instr.sLatch k ≠ .sDispBit1 := by cases k <;> nofun
@[simp] theorem sLatch_ne_sDispAck (k : Kind) : Instr.sLatch k ≠ .sDispAck := by cases k <;> nofun
@[simp] theorem sLatch_ne_rDispAck (k : Kind) : Instr.sLatch k ≠ .rDispAck := by cases k <;> nofun
@[simp] theorem sLatch_ne_sEmit (k : Kind) : Instr.sLatch k ≠ .sEmit := by cases k <;> nofun
@[simp] theorem rLatch_ne_sDispBit0 (k : Kind) : Instr.rLatch k ≠ .sDispBit0 := by cases k <;> nofun
@[simp] theorem rLatch_ne_sDispBit1 (k : Kind) : Instr.rLatch k ≠ .sDispBit1 := by cases k <;> nofun
@[simp] theorem rLatch_ne_sDispAck (k : Kind) : Instr.rLatch k ≠ .sDispAck := by cases k <;> nofun
@[simp] theorem rLatch_ne_rDispAck (k : Kind) : Instr.rLatch k ≠ .rDispAck := by cases k <;> nofun
@[simp] theorem rLatch_ne_sEmit (k : Kind) : Instr.rLatch k ≠ .sEmit := by cases k <;> nofun
@[simp] theorem tDeliver_ne_sDispBit0 (d : Side) (k : Kind) : Instr.tDeliver d k ≠ .sDispBit0 := by cases k <;> nofun
@[simp] theorem tDeliver_ne_sDispBit1 (d : Side) (k : Kind) : Instr.tDeliver d k ≠ .sDispBit1 := by cases k <;> nofun
@[simp] theorem tDeliver_ne_sDispAck (d : Side) (k : Kind) : Instr.tDeliver d k ≠ .sDispAck := by cases k <;> nofun
@[simp] theorem tDeliver_ne_rDispAck (d : Side) (k : Kind) : Instr.tDeliver d k ≠ .rDispAck := by cases k <;> nofun
@[simp] theorem tDeliver_ne_sEmit (d : Side) (k : Kind) : Instr.tDeliver d k ≠ .sEmit := by cases k <;> nofun
@[simp] theorem tDrop_ne_sDispBit0 (d : Side) (k : Kind) : Instr.tDrop d k ≠ .sDispBit0 := by cases k <;> nofun
@[simp] theorem tDrop_ne_sDispBit1 (d : Side) (k : Kind) : Instr.tDrop d k ≠ .sDispBit1 := by cases k <;> nofun
@[simp] theorem tDrop_ne_sDispAck (d : Side) (k : Kind) : Instr.tDrop d k ≠ .sDispAck := by cases k <;> nofun
@[simp] theorem tDrop_ne_rDispAck (d : Side) (k : Kind) : Instr.tDrop d k ≠ .rDispAck := by cases k <;> nofun
@[simp] theorem tDrop_ne_sEmit (d : Side) (k : Kind) : Instr.tDrop d k ≠ .sEmit := by cases k <;> nofun

/-! When they are enabled (42_link.md R160, R165, R166). -/

theorem enabled_dispOp (d : Side) (k : Kind) (s : State) :
    enabled (dispOp d k) s ↔ s.fsm d ≠ .idle ∧ (s.pend d).get k = true := by
  cases d <;> cases k <;> exact Iff.rfl

theorem enabled_tDeliver (d : Side) (k : Kind) (s : State) :
    enabled (Instr.tDeliver d k) s ↔ (s.wire d).get k = true := by
  cases k <;> exact Iff.rfl

theorem enabled_tDrop (d : Side) (k : Kind) (s : State) :
    enabled (Instr.tDrop d k) s ↔ s.transportLossy = true ∧ (s.wire d).get k = true := by
  cases k <;> exact Iff.rfl

/-- A DISP or a T.DELIVER is one of these. -/
theorem isDispOrDeliver_iff (i : Instr) :
    i.isDispOrDeliver = true ↔ (∃ d k, i = dispOp d k) ∨ (∃ d k, i = Instr.tDeliver d k) := by
  constructor
  · intro h
    cases i <;> first
      | exact .inl ⟨.sender, .bitZero, rfl⟩
      | exact .inl ⟨.sender, .bitOne, rfl⟩
      | exact .inl ⟨.sender, .ack, rfl⟩
      | exact .inl ⟨.receiver, .bitZero, rfl⟩
      | exact .inl ⟨.receiver, .bitOne, rfl⟩
      | exact .inl ⟨.receiver, .ack, rfl⟩
      | exact .inr ⟨_, .bitZero, rfl⟩
      | exact .inr ⟨_, .bitOne, rfl⟩
      | exact .inr ⟨_, .ack, rfl⟩
      | exact absurd h Bool.false_ne_true
  · rintro (⟨d, k, rfl⟩ | ⟨d, k, rfl⟩)
    · cases d <;> simp [dispOp]
    · simp

/-- A state in which nothing is in flight or latched enables no DISP and no T.DELIVER. -/
theorem NothingPending.not_enabled {s : State} (h : NothingPending s) {i : Instr}
    (hi : i.isDispOrDeliver = true) : ¬ enabled i s := by
  obtain ⟨hw, hs, hr⟩ := h
  rcases (isDispOrDeliver_iff i).mp hi with ⟨d, k, rfl⟩ | ⟨d, k, rfl⟩
  · rw [enabled_dispOp]
    cases d <;> cases k <;> simp [hs, hr, State.pend, KindFlags.none, KindFlags.get]
  · rw [enabled_tDeliver]
    cases d <;> cases k <;> simp [hw, State.wire, Wires.empty, KindFlags.none, KindFlags.get]

end Sys2Proof.Machine
end

