-- ==== Sys2Proof/Laws/Exec.lean ====
section
/-! SUPPORT. Everything `exec` can do when it answers a next state, said once: one constructor of
`Effect` per shape, and `exec_next_iff`. Claims over all operations are a case analysis of it. -/

namespace Sys2Proof.Machine

/-- The accepted S.START before its first emission. -/
def State.openSender (s : State) (v : Word) (h : Peer) : State :=
  { s.silent with sender := { s.silent.sender with
      payload := v, peer := h, cursor := 0#6, fsm := .run } }

/-- The accepted R.START. -/
def State.openReceiver (s : State) (h : Peer) : State :=
  { s.silent with receiver := { s.silent.receiver with
      acc := 0x00000000#32, cursor := 0#6, peer := h, fsm := .run } }

/-- `Effect s i t`: operation `i` takes `s` to `t`. -/
inductive Effect (s : State) : Instr → State → Prop where
  | sReset : Effect s .sReset { s.silent with sender := Sender.reset }
  | rReset : Effect s .rReset { s.silent with receiver := Receiver.reset }
  | sStart (v : Word) (h : Peer) : s.sender.fsm = .idle →
      Effect s (.sStart v h) ((s.openSender v h).sendBit 31)
  | sStartErr (v : Word) (h : Peer) : s.sender.fsm ≠ .idle →
      Effect s (.sStart v h) (s.silent.raiseStart .sender)
  | rStart (h : Peer) : s.receiver.fsm = .idle → Effect s (.rStart h) (s.openReceiver h)
  | rStartErr (h : Peer) : s.receiver.fsm ≠ .idle →
      Effect s (.rStart h) (s.silent.raiseStart .receiver)
  | sEmit : s.sender.fsm = .run → s.sender.cursor.toNat < 32 →
      Effect s .sEmit (s.silent.sendBit (31 - s.sender.cursor.toNat))
  | ackEmits : s.sender.fsm ≠ .idle → s.sender.pend.ack = true → s.sender.cursor.toNat < 32 →
      Effect s .sDispAck
        ((s.silent.setPend .sender .ack false).sendBit (31 - s.sender.cursor.toNat))
  | ackAbsorbed : s.sender.fsm ≠ .idle → s.sender.pend.ack = true →
      s.sender.cursor.toNat = 32 → Effect s .sDispAck (s.silent.setPend .sender .ack false)
  | sUnexpected (b : Bool) : s.sender.fsm ≠ .idle → s.sender.pend.get (bitKind b) = true →
      Effect s (Instr.sDisp (bitKind b))
        ((s.silent.setPend .sender (bitKind b) false).raiseUnexp .sender)
  | rUnexpected : s.receiver.fsm ≠ .idle → s.receiver.pend.ack = true →
      Effect s .rDispAck ((s.silent.setPend .receiver .ack false).raiseUnexp .receiver)
  | bitTaken (b : Bool) : s.receiver.fsm = .run → s.receiver.pend.get (bitKind b) = true →
      s.receiver.cursor.toNat < 32 →
      Effect s (Instr.rDisp (bitKind b))
        ((s.silent.setPend .receiver (bitKind b) false).takeBit
          (31 - s.receiver.cursor.toNat) b)
  | overrun (b : Bool) : s.receiver.fsm = .done → s.receiver.pend.get (bitKind b) = true →
      Effect s (Instr.rDisp (bitKind b))
        (s.silent.setPend .receiver (bitKind b) false).raiseOverrun
  | sLatch (k : Kind) : Effect s (Instr.sLatch k) (s.silent.setPend .sender k true)
  | rLatch (k : Kind) : Effect s (Instr.rLatch k) (s.silent.setPend .receiver k true)
  | deliverS (k : Kind) : s.wires.toSender.get k = true →
      Effect s (Instr.tDeliver .sender k)
        ((s.silent.setWire .sender k false).setPend .sender k true)
  | deliverR (k : Kind) : s.wires.toReceiver.get k = true →
      Effect s (Instr.tDeliver .receiver k)
        ((s.silent.setWire .receiver k false).setPend .receiver k true)
  | dropS (k : Kind) : s.transportLossy = true → s.wires.toSender.get k = true →
      Effect s (Instr.tDrop .sender k) (s.silent.setWire .sender k false)
  | dropR (k : Kind) : s.transportLossy = true → s.wires.toReceiver.get k = true →
      Effect s (Instr.tDrop .receiver k) (s.silent.setWire .receiver k false)

variable {s t : State}

theorem sDisp_bit_effect {b : Bool}
    (h : dispatch .sender (bitKind b) (onUnexpected .sender) s = .next t) :
    Effect s (Instr.sDisp (bitKind b)) t := by
  obtain ⟨he, ht⟩ := dispatch_next_iff.mp h
  obtain ⟨hf, hp⟩ := (dispEnabled_iff _ _ _).mp he
  cases ht
  exact .sUnexpected b hf hp

theorem rDisp_bit_effect {b : Bool}
    (h : dispatch .receiver (bitKind b) (onBit b) s = .next t) :
    Effect s (Instr.rDisp (bitKind b)) t := by
  obtain ⟨he, ht⟩ := dispatch_next_iff.mp h
  obtain ⟨hf, hp⟩ := (dispEnabled_iff _ _ _).mp he
  obtain ⟨hr, hc, rfl⟩ | ⟨hr, rfl⟩ := onBit_next_iff.mp ht
  · exact .bitTaken b hr hp hc
  · refine .overrun b ?_ hp
    simp at hf hr
    cases e : s.receiver.fsm <;> simp_all

theorem deliver_effect {d : Side} {k : Kind} (h : deliver d k s = .next t) :
    Effect s (Instr.tDeliver d k) t := by
  obtain ⟨hw, rfl⟩ := deliver_next_iff.mp h
  cases d
  · exact .deliverS k hw
  · exact .deliverR k hw

theorem drop_effect {d : Side} {k : Kind} (h : drop d k s = .next t) :
    Effect s (Instr.tDrop d k) t := by
  obtain ⟨hl, hw, rfl⟩ := drop_next_iff.mp h
  cases d
  · exact .dropS k hl hw
  · exact .dropR k hl hw

theorem sStart_effect {v : Word} {h : Peer} (hx : execSStart v h s = .next t) :
    Effect s (.sStart v h) t := by
  unfold execSStart at hx
  split at hx
  · rename_i hi
    obtain ⟨-, rfl⟩ := emitBit_next_iff.mp hx
    exact .sStart v h hi
  · rename_i hi
    cases hx
    exact .sStartErr v h hi

theorem rStart_effect {h : Peer} (hx : execRStart h s = .next t) : Effect s (.rStart h) t := by
  unfold execRStart at hx
  split at hx
  · rename_i hi
    cases hx
    exact .rStart h hi
  · rename_i hi
    cases hx
    exact .rStartErr h hi

theorem sEmit_effect (hx : execSEmit s = .next t) : Effect s .sEmit t := by
  unfold execSEmit at hx
  split at hx
  · rename_i hi
    obtain ⟨-, rfl⟩ := emitBit_next_iff.mp hx
    exact .sEmit hi.1 (by omega)
  · cases hx

theorem sDispAck_effect (hx : execSDispAck s = .next t) : Effect s .sDispAck t := by
  obtain ⟨he, ht⟩ := dispatch_next_iff.mp hx
  obtain ⟨hf, hp⟩ := (dispEnabled_iff _ _ _).mp he
  obtain ⟨hc, rfl⟩ | ⟨hc, rfl⟩ := onAck_next_iff.mp ht
  · exact .ackEmits hf hp hc
  · exact .ackAbsorbed hf hp hc

theorem rDispAck_effect (hx : execRDispAck s = .next t) : Effect s .rDispAck t := by
  obtain ⟨he, ht⟩ := dispatch_next_iff.mp hx
  obtain ⟨hf, hp⟩ := (dispEnabled_iff _ _ _).mp he
  cases ht
  exact .rUnexpected hf hp

/-- Everything an operation can do when it answers a next state. -/
theorem exec_effect {i : Instr} (h : exec i s = .next t) : Effect s i t := by
  cases i with
  | sDispBit0 => exact sDisp_bit_effect (b := false) h
  | sDispBit1 => exact sDisp_bit_effect (b := true) h
  | sDispAck => exact sDispAck_effect h
  | sLatchBit0 => cases h; exact .sLatch .bitZero
  | sLatchBit1 => cases h; exact .sLatch .bitOne
  | sLatchAck => cases h; exact .sLatch .ack
  | sStart v p => exact sStart_effect h
  | sReset => cases h; exact .sReset
  | sEmit => exact sEmit_effect h
  | rDispBit0 => exact rDisp_bit_effect (b := false) h
  | rDispBit1 => exact rDisp_bit_effect (b := true) h
  | rDispAck => exact rDispAck_effect h
  | rLatchBit0 => cases h; exact .rLatch .bitZero
  | rLatchBit1 => cases h; exact .rLatch .bitOne
  | rLatchAck => cases h; exact .rLatch .ack
  | rStart p => exact rStart_effect h
  | rReset => cases h; exact .rReset
  | tDeliverBit0 d => exact deliver_effect h
  | tDeliverBit1 d => exact deliver_effect h
  | tDeliverAck d => exact deliver_effect h
  | tDropBit0 d => exact drop_effect h
  | tDropBit1 d => exact drop_effect h
  | tDropAck d => exact drop_effect h

/-- Each effect is what its operation answers. -/
theorem Effect.exec_eq {i : Instr} (h : Effect s i t) : exec i s = .next t := by
  cases h with
  | sReset => rfl
  | rReset => rfl
  | sStart v p hi =>
    show execSStart v p s = _
    rw [execSStart, if_pos hi]
    exact emitBit_next_iff.mpr ⟨show (0#6 : Cursor).toNat < 32 by decide, rfl⟩
  | sStartErr v p hi => show execSStart v p s = _; rw [execSStart, if_neg hi]
  | rStart p hi => show execRStart p s = _; rw [execRStart, if_pos hi]; rfl
  | rStartErr p hi => show execRStart p s = _; rw [execRStart, if_neg hi]
  | sEmit hr hc =>
    show execSEmit s = _
    rw [execSEmit, if_pos ⟨hr, by omega⟩]
    exact emitBit_next_iff.mpr ⟨hc, rfl⟩
  | ackEmits hf hp hc =>
    exact dispatch_next_iff.mpr
      ⟨(dispEnabled_iff _ _ _).mpr ⟨hf, hp⟩, onAck_next_iff.mpr (.inl ⟨hc, rfl⟩)⟩
  | ackAbsorbed hf hp hc =>
    exact dispatch_next_iff.mpr
      ⟨(dispEnabled_iff _ _ _).mpr ⟨hf, hp⟩, onAck_next_iff.mpr (.inr ⟨hc, rfl⟩)⟩
  | sUnexpected b hf hp =>
    cases b <;>
      exact dispatch_next_iff.mpr ⟨(dispEnabled_iff _ _ _).mpr ⟨hf, hp⟩, rfl⟩
  | rUnexpected hf hp =>
    exact dispatch_next_iff.mpr ⟨(dispEnabled_iff _ _ _).mpr ⟨hf, hp⟩, rfl⟩
  | bitTaken b hr hp hc =>
    have hf : s.receiver.fsm ≠ .idle := by simp [hr]
    cases b <;>
      exact dispatch_next_iff.mpr ⟨(dispEnabled_iff _ _ _).mpr ⟨hf, hp⟩,
        onBit_next_iff.mpr (.inl ⟨hr, hc, rfl⟩)⟩
  | overrun b hd hp =>
    have hf : s.receiver.fsm ≠ .idle := by simp [hd]
    have hr : (s.silent.setPend .receiver (bitKind b) false).receiver.fsm ≠ .run := by simp [hd]
    cases b <;>
      exact dispatch_next_iff.mpr ⟨(dispEnabled_iff _ _ _).mpr ⟨hf, hp⟩,
        onBit_next_iff.mpr (.inr ⟨hr, rfl⟩)⟩
  | sLatch k => cases k <;> rfl
  | rLatch k => cases k <;> rfl
  | deliverS k hw => cases k <;> exact deliver_next_iff.mpr ⟨hw, rfl⟩
  | deliverR k hw => cases k <;> exact deliver_next_iff.mpr ⟨hw, rfl⟩
  | dropS k hl hw => cases k <;> exact drop_next_iff.mpr ⟨hl, hw, rfl⟩
  | dropR k hl hw => cases k <;> exact drop_next_iff.mpr ⟨hl, hw, rfl⟩

theorem exec_next_iff {i : Instr} : exec i s = .next t ↔ Effect s i t :=
  ⟨exec_effect, Effect.exec_eq⟩

/-! The rows of one shape, by kind. -/

/-- The handler a DISP runs (40_sender.md R104 to R106, 41_receiver.md R133 to R135). -/
def handlerOf : Side → Kind → State → Result
  | .sender, .ack => onAck
  | .sender, .bitZero => onUnexpected .sender
  | .sender, .bitOne => onUnexpected .sender
  | .receiver, .bitZero => onBit false
  | .receiver, .bitOne => onBit true
  | .receiver, .ack => onUnexpected .receiver

theorem exec_dispOp (d : Side) (k : Kind) (s : State) :
    exec (dispOp d k) s = dispatch d k (handlerOf d k) s := by
  cases d <;> cases k <;> rfl

theorem exec_latchOp (d : Side) (k : Kind) (s : State) :
    exec (latchOp d k) s = .next (s.silent.setPend d k true) := by
  cases d <;> cases k <;> rfl

theorem exec_tDeliver (d : Side) (k : Kind) (s : State) :
    exec (Instr.tDeliver d k) s = deliver d k s := by
  cases k <;> rfl

theorem exec_tDrop (d : Side) (k : Kind) (s : State) :
    exec (Instr.tDrop d k) s = drop d k s := by
  cases k <;> rfl

/-- A handler refuses nothing. -/
theorem handlerOf_ne_refused (d : Side) (k : Kind) (s : State) (r : Refusal) :
    handlerOf d k s ≠ .refused r := by
  cases d <;> cases k <;> simp [handlerOf, onUnexpected]
  · simp only [onAck, emitBit]
    split
    · split <;> nofun
    · split <;> nofun
  all_goals
    simp only [onBit, acceptBit]
    split
    · split <;> nofun
    · nofun

/-- A handler leaves every latch as the dispatcher left it, and takes no engine to IDLE. -/
theorem handlerOf_frame {d : Side} {k : Kind} (h : handlerOf d k s = .next t) :
    t.sender.pend = s.sender.pend ∧ t.receiver.pend = s.receiver.pend ∧
    (∀ e, s.fsm e ≠ .idle → t.fsm e ≠ .idle) := by
  have hA : ∀ (f : Fsm) (c : Cursor), f ≠ .idle → fsmAfter f c ≠ .idle := by
    intro f c hf
    unfold fsmAfter
    split
    · nofun
    · exact hf
  have hU : ∀ e : Side, t = s.raiseUnexp e → t.sender.pend = s.sender.pend ∧
      t.receiver.pend = s.receiver.pend ∧ ∀ e, s.fsm e ≠ .idle → t.fsm e ≠ .idle := by
    rintro e rfl
    cases e <;> exact ⟨rfl, rfl, fun e he => by cases e <;> exact he⟩
  have hB : ∀ b, onBit b s = .next t → t.sender.pend = s.sender.pend ∧
      t.receiver.pend = s.receiver.pend ∧ ∀ e, s.fsm e ≠ .idle → t.fsm e ≠ .idle := by
    intro b hb
    obtain ⟨-, -, rfl⟩ | ⟨-, rfl⟩ := onBit_next_iff.mp hb
    · exact ⟨rfl, rfl, fun e he => by cases e <;> [exact he; exact hA _ _ he]⟩
    · exact ⟨rfl, rfl, fun e he => by cases e <;> exact he⟩
  cases d <;> cases k
  · cases h; exact hU .sender rfl
  · cases h; exact hU .sender rfl
  · obtain ⟨-, rfl⟩ | ⟨-, rfl⟩ := onAck_next_iff.mp h
    · exact ⟨rfl, rfl, fun e he => by cases e <;> [exact hA _ _ he; exact he]⟩
    · exact ⟨rfl, rfl, fun e he => he⟩
  · exact hB false h
  · exact hB true h
  · cases h; exact hU .receiver rfl

end Sys2Proof.Machine
end

