-- ==== Sys2Proof/Laws/Flags.lean ====
section
/-! SUPPORT. The STATUS word bit by bit. -/

namespace Sys2Proof.Machine

/-- Bit `i` of a STATUS word, the fields from bit 0 up (10_state.md R35). -/
theorem statusWord_getLsbD (role overrun start unexp : Bool) (p : KindFlags) (c : Cursor) (f : Fsm)
    (i : Nat) :
    (statusWord role overrun start unexp p c f).getLsbD i =
      if i < 2 then f.code.getLsbD i
      else if i < 3 then f.isDone
      else if i < 4 then false
      else if i < 10 then c.getLsbD (i - 4)
      else if i < 12 then false
      else if i < 13 then p.bitZero
      else if i < 14 then p.bitOne
      else if i < 15 then p.ack
      else if i < 16 then false
      else if i < 17 then unexp
      else if i < 18 then start
      else if i < 19 then overrun
      else if i < 31 then false
      else if i < 32 then role
      else false := by
  have h : ∀ j, (statusWord role overrun start unexp p c f).getLsbD j =
      BitVec.getLsbD (BitVec.ofBool role ++ 0#12 ++ BitVec.ofBool overrun ++ BitVec.ofBool start
        ++ BitVec.ofBool unexp ++ 0#1 ++ BitVec.ofBool p.ack ++ BitVec.ofBool p.bitOne
        ++ BitVec.ofBool p.bitZero ++ 0#2 ++ c ++ 0#1 ++ BitVec.ofBool f.isDone ++ f.code) j :=
    fun _ => rfl
  rw [h]
  by_cases hi : i < 32
  · simp only [BitVec.getLsbD_append]
    interval_cases i <;> simp
  · rw [BitVec.getLsbD_of_ge _ _ (by omega)]
    simp [show ¬ i < 2 by omega, show ¬ i < 3 by omega, show ¬ i < 4 by omega,
      show ¬ i < 10 by omega, show ¬ i < 12 by omega, show ¬ i < 13 by omega,
      show ¬ i < 14 by omega, show ¬ i < 15 by omega, show ¬ i < 16 by omega,
      show ¬ i < 17 by omega, show ¬ i < 18 by omega, show ¬ i < 19 by omega,
      show ¬ i < 31 by omega, hi]

end Sys2Proof.Machine
end

