-- ==== Sys2Proof/Laws/PerInstr.lean ====
section
/-! SUPPORT. Statements about every operation as syntax, one lemma per constructor. -/

namespace Sys2Proof.Laws

/-- The AGENT code of the agent whose transition an operation is (30_encoding.md R83). -/
def agentCode : Agent → BitVec 2
  | .engine .sender => 0b00#2
  | .engine .receiver => 0b01#2
  | .transport => 0b10#2

/-- How many operand words follow the event word: payload and peer, peer, or none (30_encoding.md R87). -/
def operandCount : Instr → Nat
  | .sStart _ _ => 2
  | .rStart _ => 1
  | _ => 0

/-- The event word names its agent, and exactly the operands of R87 follow it. -/
def WordFields.Statement (i : Instr) : Prop :=
  (eventWord i).agent = agentCode i.agent ∧ (encode i).length = 1 + operandCount i

theorem WordFields.sDispBit0 : WordFields.Statement .sDispBit0 :=
  ⟨rfl, rfl⟩

theorem WordFields.sDispBit1 : WordFields.Statement .sDispBit1 :=
  ⟨rfl, rfl⟩

theorem WordFields.sDispAck : WordFields.Statement .sDispAck :=
  ⟨rfl, rfl⟩

theorem WordFields.sLatchBit0 : WordFields.Statement .sLatchBit0 :=
  ⟨rfl, rfl⟩

theorem WordFields.sLatchBit1 : WordFields.Statement .sLatchBit1 :=
  ⟨rfl, rfl⟩

theorem WordFields.sLatchAck : WordFields.Statement .sLatchAck :=
  ⟨rfl, rfl⟩

theorem WordFields.sStart (v : Word) (h : Peer) : WordFields.Statement (.sStart v h) :=
  ⟨show EventWord.agent 0x08#6 = 0b00#2 from rfl, rfl⟩

theorem WordFields.sReset : WordFields.Statement .sReset :=
  ⟨rfl, rfl⟩

theorem WordFields.sEmit : WordFields.Statement .sEmit :=
  ⟨rfl, rfl⟩

theorem WordFields.rDispBit0 : WordFields.Statement .rDispBit0 :=
  ⟨rfl, rfl⟩

theorem WordFields.rDispBit1 : WordFields.Statement .rDispBit1 :=
  ⟨rfl, rfl⟩

theorem WordFields.rDispAck : WordFields.Statement .rDispAck :=
  ⟨rfl, rfl⟩

theorem WordFields.rLatchBit0 : WordFields.Statement .rLatchBit0 :=
  ⟨rfl, rfl⟩

theorem WordFields.rLatchBit1 : WordFields.Statement .rLatchBit1 :=
  ⟨rfl, rfl⟩

theorem WordFields.rLatchAck : WordFields.Statement .rLatchAck :=
  ⟨rfl, rfl⟩

theorem WordFields.rStart (h : Peer) : WordFields.Statement (.rStart h) :=
  ⟨show EventWord.agent 0x18#6 = 0b01#2 from rfl, rfl⟩

theorem WordFields.rReset : WordFields.Statement .rReset :=
  ⟨rfl, rfl⟩

theorem WordFields.tDeliverBit0 (d : Side) : WordFields.Statement (.tDeliverBit0 d) :=
  by cases d <;> exact ⟨rfl, rfl⟩

theorem WordFields.tDeliverBit1 (d : Side) : WordFields.Statement (.tDeliverBit1 d) :=
  by cases d <;> exact ⟨rfl, rfl⟩

theorem WordFields.tDeliverAck (d : Side) : WordFields.Statement (.tDeliverAck d) :=
  by cases d <;> exact ⟨rfl, rfl⟩

theorem WordFields.tDropBit0 (d : Side) : WordFields.Statement (.tDropBit0 d) :=
  by cases d <;> exact ⟨rfl, rfl⟩

theorem WordFields.tDropBit1 (d : Side) : WordFields.Statement (.tDropBit1 d) :=
  by cases d <;> exact ⟨rfl, rfl⟩

theorem WordFields.tDropAck (d : Side) : WordFields.Statement (.tDropAck d) :=
  by cases d <;> exact ⟨rfl, rfl⟩

end Sys2Proof.Laws
end

