-- ==== Sys2Proof/Laws/Run.lean ====
section
/-! SUPPORT. A list of operations as an execution of the link (42_link.md R171): after the last one
nothing more happens. -/

namespace Sys2Proof.Machine

/-- The state an operation leads to, where it completes. -/
def nextOr (i : Instr) (s : State) : State :=
  match exec i s with
  | .next t => t
  | _ => s

/-- The states along a list of operations; the last one for ever. -/
def statesOf : List Instr → State → Nat → State
  | [], s, _ => s
  | _ :: _, s, 0 => s
  | i :: is, s, n + 1 => statesOf is (nextOr i s) n

/-- Every operation of the list completes. -/
def completes : List Instr → State → Bool
  | [], _ => true
  | i :: is, s =>
    match exec i s with
    | .next t => completes is t
    | _ => false

/-- The state at the end of the list. -/
def lastOf : List Instr → State → State
  | [], s => s
  | i :: is, s => lastOf is (nextOr i s)

@[simp] theorem execAll_nil (s : State) : execAll [] s = .next s := rfl

theorem execAll_cons_next {i : Instr} {is : List Instr} {s t : State} (h : exec i s = .next t) :
    execAll (i :: is) s = execAll is t := by
  simp [execAll, h]

/-- A run that ends in a next state went through the next state of its first operation. -/
theorem execAll_cons_eq_next {i : Instr} {is : List Instr} {s u : State} :
    execAll (i :: is) s = .next u ↔ ∃ t, exec i s = .next t ∧ execAll is t = .next u := by
  cases h : exec i s <;> simp [execAll, h]

@[simp] theorem execEmitting_nil (d : Side) (s : State) : execEmitting d [] s = some (s, []) := rfl

/-- What a run presents: what its first operation presents, then what the rest does. -/
theorem execEmitting_cons_eq_some {d : Side} {i : Instr} {is : List Instr} {s u : State}
    {out : List Notification} :
    execEmitting d (i :: is) s = some (u, out) ↔ ∃ t rest, exec i s = .next t ∧
      execEmitting d is t = some (u, rest) ∧ out = (t.ntfOut d).toList ++ rest := by
  constructor
  · intro h
    simp only [execEmitting] at h
    split at h
    · rename_i t ht
      split at h
      · rename_i v rest hv
        cases h
        exact ⟨t, rest, ht, hv, rfl⟩
      · cases h
    · cases h
  · rintro ⟨t, rest, h1, h2, rfl⟩
    simp [execEmitting, h1, h2]

@[simp] theorem statesOf_zero (is : List Instr) (s : State) : statesOf is s 0 = s := by
  cases is <;> rfl

/-- Operations that complete one after the other are an execution. -/
theorem execution_statesOf : ∀ (is : List Instr) (s : State), completes is s = true →
    (∀ i ∈ is, i.isLinkOp = true) → Execution (statesOf is s) fun n => is[n]?
  | [], _, _, _ => fun _ => rfl
  | i :: is, s, hc, hl => by
    intro n
    unfold completes at hc
    split at hc
    · rename_i t ht
      have hn : nextOr i s = t := by simp [nextOr, ht]
      cases n with
      | zero => exact ⟨hl i (by simp), by simpa [statesOf, hn] using ht⟩
      | succ n =>
        have := execution_statesOf is t hc (fun j hj => hl j (by simp [hj])) n
        simpa [statesOf, hn] using this
    · cases hc

/-- From the end of the list on, the last state. -/
theorem statesOf_of_length_le : ∀ (is : List Instr) (s : State) (n : Nat), is.length ≤ n →
    statesOf is s n = lastOf is s
  | [], _, _, _ => rfl
  | i :: is, s, 0, h => absurd h (by simp)
  | i :: is, s, n + 1, h => by
    simpa [statesOf, lastOf] using
      statesOf_of_length_le is (nextOr i s) n (by simpa using h)

/-- A list of operations that ends where nothing is enabled is weakly fair. -/
theorem weaklyFair_statesOf {is : List Instr} {s : State}
    (h : ∀ i : Instr, i.isDispOrDeliver = true → ¬ enabled i (lastOf is s)) :
    WeaklyFair (statesOf is s) fun n => is[n]? := by
  intro i hi n hn
  have := hn (n + is.length) (by omega)
  rw [statesOf_of_length_le is s _ (by omega)] at this
  exact absurd this (h i hi)

end Sys2Proof.Machine
end

