-- ==== Sys2Proof/Laws/Step.lean ====
section
/-! SUPPORT. Everything a step can do when it answers a next state. -/

namespace Sys2Proof.Machine

/-- A step that answers a next state ran the operation the trace presents, its words consumed. -/
theorem step_next {s t : State} (h : step s = .next t) :
    ∃ i rest, decode s.peerW s.trace = .ok (i, rest) ∧ i.presentable = true ∧
      exec i (s.withTrace rest) = .next t := by
  unfold step at h
  split at h
  · cases h
  · split at h
    · cases h
    · rename_i i rest e
      unfold runPresented at h
      split at h
      · exact ⟨i, rest, e, by assumption, h⟩
      · cases h

end Sys2Proof.Machine
end

