-- ==== Sys2Proof/Machine/Asm.lean ====
section
/-! DEFINITION. The written trace (30_encoding.md R91): one operation or pseudo-operation per line, the
mnemonic, then operands separated by commas, with a comment from `;` on. Text is a list of characters.
What R91 leaves open (blanks around words, lines without an operation, numerals, the base of a peer
number, the line `S.EMIT`) is log entry 9. -/

namespace Sys2Proof.Machine

/-- Why a line of a written trace is refused. -/
inductive AsmRefusal where
  | unknownMnemonic
  | wrongOperands
  | badPayload
  | badPeer
  | badSide
  | badBit
deriving DecidableEq, Repr

/-- The names a trace uses for peer handles: R91 calls a peer an opaque name or number. -/
abbrev PeerNames := List (List Char × Peer)

/-- What stands after a mnemonic. -/
inductive AsmForm where
  | plain (ops : List Instr)
  | sStart
  | rStart
  | linkStart
  | side (op : Side → Instr)
  | bit (ops : Bool → List Instr)

/-- The mnemonics of R88 and R92 with their operand forms. A line `S.EMIT` is accepted, as R91 admits every
mnemonic of R88; that a trace never presents it alone (R90) is refused by the step, as for its word. A
T.DROP line is accepted whatever the transport is. (DESIGN CHOICE, log entry 9.) -/
def asmRows : List (String × AsmForm) :=
  [("S.DISP.BIT0", .plain [.sDispBit0]), ("S.DISP.BIT1", .plain [.sDispBit1]),
   ("S.DISP.ACK", .plain [.sDispAck]), ("S.LATCH.BIT0", .plain [.sLatchBit0]),
   ("S.LATCH.BIT1", .plain [.sLatchBit1]), ("S.LATCH.ACK", .plain [.sLatchAck]),
   ("S.START", .sStart), ("S.RESET", .plain [.sReset]), ("S.EMIT", .plain [.sEmit]),
   ("R.DISP.BIT0", .plain [.rDispBit0]), ("R.DISP.BIT1", .plain [.rDispBit1]),
   ("R.DISP.ACK", .plain [.rDispAck]), ("R.LATCH.BIT0", .plain [.rLatchBit0])] ++
  [("R.LATCH.BIT1", .plain [.rLatchBit1]), ("R.LATCH.ACK", .plain [.rLatchAck]),
   ("R.START", .rStart), ("R.RESET", .plain [.rReset]),
   ("T.DELIVER.BIT0", .side .tDeliverBit0), ("T.DELIVER.BIT1", .side .tDeliverBit1),
   ("T.DELIVER.ACK", .side .tDeliverAck), ("T.DROP.BIT0", .side .tDropBit0),
   ("T.DROP.BIT1", .side .tDropBit1), ("T.DROP.ACK", .side .tDropAck),
   ("LINK.RESET", .plain linkReset), ("LINK.START", .linkStart), ("ROUND", .bit roundOps),
   ("RX", .bit rxOps), ("TX_ACK", .plain txAckOps)]

/-- Space or tab. -/
def isBlank (c : Char) : Bool := c == ' ' || c == '\t'

/-- A word without the blanks around it. -/
def trim (l : List Char) : List Char :=
  ((l.dropWhile isBlank).reverse.dropWhile isBlank).reverse

/-- The pieces of a line between its commas. -/
def splitCommas : List Char → List (List Char)
  | [] => [[]]
  | c :: cs =>
    if c == ',' then [] :: splitCommas cs
    else
      match splitCommas cs with
      | [] => [[c]]
      | p :: ps => (c :: p) :: ps

/-- The value of a digit in a base of at most 16. -/
def digit (base : Nat) (c : Char) : Option Nat :=
  let v :=
    if '0' ≤ c ∧ c ≤ '9' then c.toNat - '0'.toNat
    else if 'a' ≤ c ∧ c ≤ 'f' then c.toNat - 'a'.toNat + 10
    else if 'A' ≤ c ∧ c ≤ 'F' then c.toNat - 'A'.toNat + 10
    else 16
  if v < base then some v else none

/-- The value of a run of digits after those read so far. -/
def digitsFrom (base : Nat) : Nat → List Char → Option Nat
  | n, [] => some n
  | n, c :: cs =>
    match digit base c with
    | some v => digitsFrom base (n * base + v) cs
    | none => none

/-- A numeral: at least one digit, no other character. -/
def numeral (base : Nat) (l : List Char) : Option Nat :=
  if l.isEmpty then none else digitsFrom base 0 l

/-- `<payload>`: `0x` and up to eight hexadecimal digits, or a signed decimal in
`[-2147483648, 2147483647]` taken as its two's-complement pattern (R91). A leading `+` is
refused, leading zeros are accepted, and `-` stands directly before its digits (DESIGN CHOICE, log
entry 9). -/
def parsePayload : List Char → Option Word
  | '0' :: 'x' :: ds =>
    if ds.length ≤ 8 then (numeral 16 ds).map (BitVec.ofNat 32) else none
  | '-' :: ds =>
    match numeral 10 ds with
    | some n => if n ≤ 2147483648 then some (BitVec.ofInt 32 (-(n : Int))) else none
    | none => none
  | ds =>
    match numeral 10 ds with
    | some n => if n ≤ 2147483647 then some (BitVec.ofNat 32 n) else none
    | none => none

/-- `<peer>`: a name, or a number. -/
def parsePeer (names : PeerNames) (l : List Char) : Option Peer :=
  match names.find? fun p => p.1 == l with
  | some p => some p.2
  | none =>
    match l with
    | '0' :: 'x' :: ds => numeral 16 ds
    | ds => numeral 10 ds

/-- `<S|R>`. -/
def parseSide : List Char → Option Side
  | ['S'] => some .sender
  | ['R'] => some .receiver
  | _ => none

/-- `<b>`. -/
def parseBit : List Char → Option Bool
  | ['0'] => some false
  | ['1'] => some true
  | _ => none

/-- The operations of a mnemonic with its operands. -/
def assembleForm (names : PeerNames) (form : AsmForm) (operands : List (List Char)) :
    Except AsmRefusal (List Instr) :=
  match form, operands with
  | .plain ops, [] => .ok ops
  | .sStart, [v, h] =>
    match parsePayload v, parsePeer names h with
    | some payload, some peer => .ok [.sStart payload peer]
    | none, _ => .error .badPayload
    | _, none => .error .badPeer
  | .rStart, [h] =>
    match parsePeer names h with
    | some peer => .ok [.rStart peer]
    | none => .error .badPeer
  | .linkStart, [v, hs, hr] =>
    match parsePayload v, parsePeer names hs, parsePeer names hr with
    | some payload, some ps, some pr => .ok (linkStart payload ps pr)
    | none, _, _ => .error .badPayload
    | _, _, _ => .error .badPeer
  | .side op, [d] =>
    match parseSide d with
    | some dst => .ok [op dst]
    | none => .error .badSide
  | .bit ops, [b] =>
    match parseBit b with
    | some v => .ok (ops v)
    | none => .error .badBit
  | _, _ => .error .wrongOperands

/-- One line of a written trace (R91). R91 says only that a line holds one operation and that `;` begins a
comment; that a blank line, or a comment alone, is accepted and stands for no operation is the model's
(DESIGN CHOICE, log entry 9). -/
def assembleLine (names : PeerNames) (line : List Char) : Except AsmRefusal (List Instr) :=
  let text := trim (line.takeWhile (· != ';'))
  if text.isEmpty then .ok []
  else
    let mnemonic := text.takeWhile fun c => !isBlank c
    let rest := trim (text.dropWhile fun c => !isBlank c)
    let operands := if rest.isEmpty then [] else (splitCommas rest).map trim
    match asmRows.find? fun r => r.1.toList == mnemonic with
    | some row => assembleForm names row.2 operands
    | none => .error .unknownMnemonic

end Sys2Proof.Machine
end

