-- ==== Sys2Proof/Tests/Slice0.lean ====
section
/-! SUPPORT. Tests and witnesses. The expected values of the `test_` theorems are those of
95_test_vectors.md (the row is named) or the bits of 30_encoding.md; a `witness_` theorem shows that the
hypotheses of the obligation it names can be met, clause by clause at the ends of their ranges. -/

namespace Sys2Proof.Tests

open Sys2Proof.Machine

/-! ### Small states -/

/-- A clean link with 4-bit peer handles. -/
def clean (lossy : Bool) : State :=
  { sender := Sender.reset, receiver := Receiver.reset, wires := Wires.empty, peerW := 4,
    transportLossy := lossy, trace := [] }

/-- Flags by kind code, `pend[2] pend[1] pend[0]`. -/
def flags (k2 k1 k0 : Bool) : KindFlags := { bitZero := k0, bitOne := k1, ack := k2 }

/-- A link whose sender is as given; the receiver is handle 2. -/
def senderAt (v : Word) (c : Cursor) (f : Fsm) (p : KindFlags) : State :=
  { clean true with
    sender := { Sender.reset with payload := v, cursor := c, fsm := f, peer := 2, pend := p } }

/-- A link whose receiver is as given; the sender is handle 1. -/
def receiverAt (a : Word) (c : Cursor) (f : Fsm) (p : KindFlags) : State :=
  { clean true with
    receiver := { Receiver.reset with acc := a, cursor := c, fsm := f, peer := 1, pend := p } }

/-- Something read from the next state, where there is one. -/
def after {α : Type} (i : Instr) (s : State) (read : State → α) : Option α :=
  match exec i s with
  | .next t => some (read t)
  | _ => none

/-- STATUS of the sender and what it emits. -/
def senderSees (t : State) : Word × Option Notification := (t.status .sender, t.ntfOut .sender)

/-- STATUS and DATA of the receiver and what it emits. -/
def receiverSees (t : State) : Word × Word × Option Notification :=
  (t.status .receiver, t.data .receiver, t.ntfOut .receiver)

/-! ### Well-formedness: an ill-formed term for each check -/

theorem test_wf_peer_too_wide : (Instr.rStart 16).wellFormed 4 true = false := by decide
theorem test_wf_sStart_peer_too_wide : (Instr.sStart 0#32 16).wellFormed 4 true = false := by
  decide
theorem test_wf_emit_alone : Instr.sEmit.wellFormed 4 true = false := by decide
theorem test_wf_drop_on_lossless : (Instr.tDropAck .sender).wellFormed 4 false = false := by
  decide
theorem test_wf_drop_on_lossy : (Instr.tDropAck .sender).wellFormed 4 true = true := by decide

/-! ### Decoding: every word written out from R82 to R85, `AGENT CLASS SUB` or `AGENT OP DST kind` -/

theorem test_decode_sDisp :
    [0b00_00_00, 0b00_00_01, 0b00_00_10].map (decodeTableWord 8) =
      [some .sDispBit0, some .sDispBit1, some .sDispAck] := by decide

theorem test_decode_sLatch :
    [0b00_01_00, 0b00_01_01, 0b00_01_10].map (decodeTableWord 8) =
      [some .sLatchBit0, some .sLatchBit1, some .sLatchAck] := by decide

theorem test_decode_sCommand :
    [0b00_10_00, 0b00_10_01, 0b00_11_00].map (decodeTableWord 8) =
      [some (.sStart 0#32 0), some .sReset, some .sEmit] := by decide

theorem test_decode_rDisp :
    [0b01_00_00, 0b01_00_01, 0b01_00_10].map (decodeTableWord 8) =
      [some .rDispBit0, some .rDispBit1, some .rDispAck] := by decide

theorem test_decode_rLatch :
    [0b01_01_00, 0b01_01_01, 0b01_01_10].map (decodeTableWord 8) =
      [some .rLatchBit0, some .rLatchBit1, some .rLatchAck] := by decide

theorem test_decode_rCommand :
    [0b01_10_00, 0b01_10_01].map (decodeTableWord 8) = [some (.rStart 0), some .rReset] := by
  decide

theorem test_decode_tDeliver :
    [0b10_0_0_00, 0b10_0_0_01, 0b10_0_0_10, 0b10_0_1_00, 0b10_0_1_01, 0b10_0_1_10].map
        (decodeTableWord 8) =
      [some (.tDeliverBit0 .sender), some (.tDeliverBit1 .sender), some (.tDeliverAck .sender),
       some (.tDeliverBit0 .receiver), some (.tDeliverBit1 .receiver),
       some (.tDeliverAck .receiver)] := by decide

theorem test_decode_tDrop :
    [0b10_1_0_00, 0b10_1_0_01, 0b10_1_0_10, 0b10_1_1_00, 0b10_1_1_01, 0b10_1_1_10].map
        (decodeTableWord 8) =
      [some (.tDropBit0 .sender), some (.tDropBit1 .sender), some (.tDropAck .sender),
       some (.tDropBit0 .receiver), some (.tDropBit1 .receiver),
       some (.tDropAck .receiver)] := by decide

/-- L2-ENC: the reserved words, each for the field that is reserved. -/
theorem test_decode_reserved :
    decode 4 [0b00_00_11] = .error .reservedKind ∧ decode 4 [0b01_01_11] = .error .reservedKind ∧
    decode 4 [0b10_0_1_11] = .error .reservedKind ∧
    decode 4 [0b00_10_10] = .error .reservedCommand ∧
    decode 4 [0b01_10_11] = .error .reservedCommand ∧
    decode 4 [0b00_11_01] = .error .reservedInternal ∧
    decode 4 [0b01_11_00] = .error .reservedInternal ∧
    decode 4 [0b11_00_00] = .error .reservedAgent ∧ decode 4 [64] = .error .notSixBits ∧
    decode 4 [] = .error .noWord := by
  refine ⟨rfl, rfl, rfl, rfl, rfl, rfl, rfl, rfl, rfl, rfl⟩

/-! ### The sender: rows of L2-S -/

theorem test_sReset :
    after .sReset (senderAt 0x80000001#32 31#6 .run (flags true true true))
      (fun t => (senderSees t, t.data .sender)) = some ((0x00000000#32, none), 0#32) := by decide

theorem test_sStart_bit_zero :
    after (.sStart 0x00000000#32 2) (clean true) senderSees =
      some (0x00000011#32, some ⟨.bitZero, 2⟩) := by decide

theorem test_sStart_in_done :
    after (.sStart 0#32 7) (senderAt 5#32 32#6 .done KindFlags.none)
      (fun t => (senderSees t, t.data .sender, t.sender.peer)) =
      some ((0x00020206#32, none), 5#32, 2) := by decide

theorem test_sDispAck_bit_zero :
    after .sDispAck (senderAt 0x80000001#32 1#6 .run (flags true false false)) senderSees =
      some (0x00000021#32, some ⟨.bitZero, 2⟩) := by decide

theorem test_sDispAck_last_bit :
    after .sDispAck (senderAt 0x80000001#32 31#6 .run (flags true false false)) senderSees =
      some (0x00000206#32, some ⟨.bitOne, 2⟩) := by decide

theorem test_sDispAck_absorbed :
    after .sDispAck (senderAt 0x80000001#32 32#6 .done (flags true false false)) senderSees =
      some (0x00000206#32, none) := by decide

theorem test_sDispAck_held_in_idle :
    exec .sDispAck (senderAt 0#32 0#6 .idle (flags true false false)) =
      .refused .notEnabled := by rfl

/-- R103: from RUN with cursor 30 and payload `0x80000001`, bit 1 is a 0. -/
theorem test_sEmit :
    after .sEmit (senderAt 0x80000001#32 30#6 .run KindFlags.none)
      (fun t => (senderSees t, t.wires.toReceiver)) =
      some ((0x000001F1#32, some ⟨.bitZero, 2⟩), flags false false true) := by decide

theorem test_sDispBit0 :
    after .sDispBit0 (senderAt 0#32 3#6 .run (flags false false true)) senderSees =
      some (0x00010031#32, none) := by decide

theorem test_sDispBit1 :
    after .sDispBit1 (senderAt 0#32 32#6 .done (flags false true false)) senderSees =
      some (0x00010206#32, none) := by decide

theorem test_sLatchBit0 :
    after .sLatchBit0 (clean true) senderSees = some (0x00001000#32, none) := by decide

theorem test_sLatchBit1 :
    after .sLatchBit1 (clean true) senderSees = some (0x00002000#32, none) := by decide

theorem test_sLatchAck :
    after .sLatchAck (senderAt 0#32 32#6 .done KindFlags.none) senderSees =
      some (0x00004206#32, none) := by decide

/-! ### The receiver: rows of L2-R -/

theorem test_rReset :
    after .rReset (receiverAt 0xFFFFFFFF#32 32#6 .done (flags true true true)) receiverSees =
      some (0x80000000#32, 0#32, none) := by decide

theorem test_rStart_keeps_latch :
    after (.rStart 1) (receiverAt 0#32 0#6 .idle (flags false true false)) receiverSees =
      some (0x80002001#32, 0#32, none) := by decide

theorem test_rStart_in_run :
    after (.rStart 9) (receiverAt 0x80000000#32 7#6 .run KindFlags.none)
      (fun t => (receiverSees t, t.receiver.peer)) =
      some ((0x80020071#32, 0x80000000#32, none), 1) := by decide

theorem test_rDispBit1_first :
    after .rDispBit1 (receiverAt 0#32 0#6 .run (flags false true false))
      (fun t => (receiverSees t, t.wires.toSender)) =
      some ((0x80000011#32, 0x80000000#32, some ⟨.ack, 1⟩), flags true false false) := by decide

theorem test_rDispBit1_last :
    after .rDispBit1 (receiverAt 0xFFFFFFFE#32 31#6 .run (flags false true false)) receiverSees =
      some (0x80000206#32, 0xFFFFFFFF#32, some ⟨.ack, 1⟩) := by decide

theorem test_rDispBit0_last :
    after .rDispBit0 (receiverAt 0x80000000#32 31#6 .run (flags false false true)) receiverSees =
      some (0x80000206#32, 0x80000000#32, some ⟨.ack, 1⟩) := by decide

theorem test_rDispBit0_overrun :
    after .rDispBit0 (receiverAt 5#32 32#6 .done (flags false false true)) receiverSees =
      some (0x80040206#32, 5#32, none) := by decide

theorem test_rDispAck :
    after .rDispAck (receiverAt 0#32 5#6 .run (flags true false false)) receiverSees =
      some (0x80010051#32, 0#32, none) := by decide

theorem test_rLatchBit0 :
    after .rLatchBit0 (receiverAt 0#32 31#6 .run KindFlags.none) (fun t => t.status .receiver) =
      some 0x800011F1#32 := by decide

theorem test_rLatchBit1 :
    after .rLatchBit1 (clean true) (fun t => t.status .receiver) = some 0x80002000#32 := by
  decide

theorem test_rLatchAck :
    after .rLatchAck (clean true) (fun t => t.status .receiver) = some 0x80004000#32 := by
  decide

/-! ### The transport: rows of L2-LINK -/

/-- A link with everything in flight. -/
def allInFlight (lossy : Bool) : State :=
  { clean lossy with wires := ⟨flags true true true, flags true true true⟩ }

theorem test_tDeliverBit1 :
    after (.tDeliverBit1 .receiver) (allInFlight false)
      (fun t => (t.wires.toReceiver, t.receiver.pend, t.wires.toSender)) =
      some (flags true false true, flags false true false, flags true true true) := by decide

theorem test_tDeliverBit0 :
    after (.tDeliverBit0 .sender) (allInFlight false)
      (fun t => (t.wires.toSender, t.sender.pend)) =
      some (flags true true false, flags false false true) := by decide

theorem test_tDeliverAck_not_in_flight :
    exec (.tDeliverAck .sender) (clean true) = .refused .notEnabled := by rfl

theorem test_tDeliverAck :
    after (.tDeliverAck .sender) (allInFlight false)
      (fun t => (t.wires.toSender, t.sender.pend)) =
      some (flags false true true, flags true false false) := by decide

theorem test_tDropAck :
    after (.tDropAck .sender) (allInFlight true) (fun t => (t.wires.toSender, t.sender.pend)) =
      some (flags false true true, KindFlags.none) := by decide

theorem test_tDropAck_lossless :
    exec (.tDropAck .sender) (allInFlight false) = .refused .dropNotLossy := by rfl

theorem test_tDropBit0 :
    after (.tDropBit0 .receiver) (allInFlight true)
      (fun t => (t.wires.toReceiver, t.receiver.pend)) =
      some (flags true true false, KindFlags.none) := by decide

theorem test_tDropBit1 :
    after (.tDropBit1 .receiver) (allInFlight true) (fun t => t.wires) =
      some ⟨flags true true true, flags true false true⟩ := by decide

/-! ### Observation: rows of L2-OBS and L2-LINK -/

theorem test_status_all_errors :
    Receiver.status { Receiver.reset with
      cursor := 32#6, fsm := .done, errUnexp := true, errStart := true, errOverrun := true } =
      0x80070206#32 := by decide

theorem test_status_cursor :
    (senderAt 0#32 17#6 .run KindFlags.none).status .sender = 0x00000111#32 := by decide

theorem test_bin32 :
    bin32 0xC0000001#32 = "11000000000000000000000000000001".toList := by decide

theorem test_signed32 :
    signed32 0x80000000#32 = -2147483648 ∧ signed32 0xFFFFFFFE#32 = -2 ∧
      signed32 0x7FFFFFFF#32 = 2147483647 := by decide

theorem test_decimal32 :
    decimal32 0xA5A5A5A5#32 = "-1515870811".toList ∧ decimal32 0#32 = "0".toList := by decide

theorem test_pulses :
    pulses .receiver 0b101#3 = [.rLatchBit0, .rLatchAck] := by decide

/-! ### The written trace (R91, R92) -/

/-- The handles a trace names. -/
def names : PeerNames := [("hS".toList, 1), ("hR".toList, 2)]

theorem test_asm_sStart :
    assembleLine names "S.START -2147483648, hR ; a comment".toList =
      .ok [.sStart 0x80000000#32 2] := by rfl

theorem test_asm_linkStart :
    assembleLine names "LINK.START 0xC0000001, hS, hR".toList =
      .ok [.rStart 1, .sStart 0xC0000001#32 2] := by rfl

theorem test_asm_round :
    assembleLine names "ROUND 1".toList =
      .ok [.tDeliverBit1 .receiver, .rDispBit1, .tDeliverAck .sender, .sDispAck] := by rfl

theorem test_asm_refused :
    assembleLine names "S.START 2147483648, hR".toList = .error .badPayload ∧
      assembleLine names "S.STOP".toList = .error .unknownMnemonic ∧
      assembleLine names "; nothing".toList = .ok [] := by
  refine ⟨rfl, rfl, rfl⟩

/-! ### Witnesses: states that meet the hypotheses of an obligation -/

/-- A link in the middle of the transfer of `0xA0000000`: the receiver has bit 31, bit 30 is on the
wire. -/
def midTransfer (lossy : Bool) : State :=
  { clean lossy with
    sender := { Sender.reset with payload := 0xA0000000#32, cursor := 2#6, fsm := .run, peer := 2 }
    receiver := { Receiver.reset with acc := 0x80000000#32, cursor := 1#6, fsm := .run, peer := 1 }
    wires := { Wires.empty with toReceiver := flags false false true } }

/-- The last round of the transfer of 0: the 32nd bit is on the wire, only the sender is DONE. -/
def lastRound (lossy : Bool) : State :=
  { clean lossy with
    sender := { Sender.reset with payload := 0#32, cursor := 32#6, fsm := .done, peer := 2 }
    receiver := { Receiver.reset with acc := 0#32, cursor := 31#6, fsm := .run, peer := 1 }
    wires := { Wires.empty with toReceiver := flags false false true } }

/-- The sender has started, the receiver has not: the first bit is latched there. -/
def firstBitHeld : State :=
  { clean false with
    sender := { Sender.reset with payload := 0x80000000#32, cursor := 1#6, fsm := .run, peer := 2 }
    receiver := { Receiver.reset with pend := flags false true false } }

theorem witness_EngineInv_mid (lossy : Bool) : EngineInv (midTransfer lossy) := by
  have h : ∀ i : Nat, i < 31 → (0x80000000#32).getLsbD i = false := by decide
  cases lossy <;>
    exact ⟨⟨by decide, by decide, by decide, by decide⟩,
      ⟨by decide, by decide, by decide, by decide, fun i hi => h i (by
        replace hi : i + 1 ≤ 31 := hi
        omega)⟩⟩

theorem witness_EngineInv_last (lossy : Bool) : EngineInv (lastRound lossy) := by
  cases lossy <;>
    exact ⟨⟨by decide, by decide, by decide, by decide⟩,
      ⟨by decide, by decide, by decide, by decide, fun i _ => by simp [lastRound]⟩⟩

theorem witness_EngineInv_held : EngineInv firstBitHeld :=
  ⟨⟨by decide, by decide, by decide, by decide⟩,
    ⟨by decide, by decide, by decide, by decide,
      fun i _ => by simp [firstBitHeld, Receiver.reset]⟩⟩

theorem witness_LockStep_mid (lossy : Bool) : LockStep (midTransfer lossy) := by
  cases lossy <;>
    exact ⟨by decide, by decide, by decide, nofun,
      fun _ => .inl ⟨rfl, .inl rfl, rfl, by decide⟩, by decide, by decide⟩

theorem witness_LockStep_last (lossy : Bool) : LockStep (lastRound lossy) := by
  cases lossy <;>
    exact ⟨by decide, by decide, by decide, nofun,
      fun _ => .inl ⟨rfl, .inl rfl, rfl, by decide⟩, by decide, by decide⟩

theorem witness_LockStep_held : LockStep firstBitHeld :=
  ⟨by decide, by decide, by decide, nofun, fun _ => .inl ⟨rfl, .inl rfl, rfl, by decide⟩,
    by decide, by decide⟩

theorem witness_EventWordMap :
    peerFits 4 0 = true ∧ peerFits 4 15 = true ∧ peerFits 0 0 = true ∧
      (0x2E, Instr.tDropAck .receiver) ∈ plainEventWords ∧ 0x3F ∈ reservedEventWords ∧
      ((clean true).withTrace [0x3F]).trace = 0x3F :: [] ∧
      ((clean true).withTrace [0x0C]).trace = 0x0C :: [] ∧
      ((clean false).withTrace [0x2E]).trace = 0x2E :: [] ∧ (clean false).transportLossy = false := by
  decide

theorem witness_DecodeOfEncode :
    (Instr.sStart 0xFFFFFFFF#32 15).operandsFit 4 = true ∧ (Instr.rStart 0).operandsFit 0 = true ∧
      (Instr.tDropAck .receiver).operandsFit 0 = true := by decide

theorem witness_EncodeOfDecode :
    decode 4 [0x08, 0xFFFFFFFF, 15, 0x3F] = .ok (.sStart 0xFFFFFFFF#32 15, [0x3F]) := by rfl

theorem witness_StepRunsThePresentedOperation :
    (decode 4 ((clean true).withTrace [0x18, 15, 0x30]).trace = .ok (.rStart 15, [0x30]) ∧
      (Instr.rStart 15).presentable = true) ∧
    (clean true).trace = [] ∧
    (((clean true).withTrace [0x18, 16]).trace ≠ [] ∧
      decode 4 ((clean true).withTrace [0x18, 16]).trace = .error .peerTooWide) ∧
    ((clean true).withTrace [0x0C, 5]).trace = 0x0C :: [5] :=
  ⟨⟨rfl, rfl⟩, rfl, ⟨by decide, rfl⟩, rfl⟩

/-- The clauses of the DISP results in which nothing is enabled: no latch, and an IDLE engine. -/
theorem witness_disp_not_enabled :
    ¬ ((midTransfer true).sender.fsm ≠ .idle ∧ (midTransfer true).sender.pend.ack = true) ∧
      ¬ ((midTransfer true).sender.fsm ≠ .idle ∧ (midTransfer true).sender.pend.bitZero = true) ∧
      ¬ ((midTransfer true).sender.fsm ≠ .idle ∧ (midTransfer true).sender.pend.bitOne = true) ∧
      ¬ ((midTransfer true).receiver.fsm ≠ .idle ∧ (midTransfer true).receiver.pend.ack = true) ∧
      ¬ (firstBitHeld.receiver.fsm ≠ .idle ∧
        firstBitHeld.receiver.pend.get (bitKind true) = true) := by decide

/-- The clauses of the T.DELIVER and T.DROP results in which nothing is enabled. -/
theorem witness_transport_not_enabled :
    ((clean true).wire .sender).get .ack = false ∧
      ¬ ((allInFlight false).transportLossy = true ∧
        ((allInFlight false).wire .sender).get .ack = true) := by decide

theorem witness_PowerOnIsTheResetState :
    (after .sReset (midTransfer true) fun _ => true) = some true := by decide

theorem witness_SStartResult :
    (clean true).sender.fsm = .idle ∧ (midTransfer true).sender.fsm ≠ .idle := by decide

theorem witness_SEmitResult (c : Cursor) (h : c = 0#6 ∨ c = 31#6) :
    (senderAt 1#32 c .run KindFlags.none).sender.fsm = .run ∧
      (senderAt 1#32 c .run KindFlags.none).sender.cursor.toNat ≤ 31 := by
  obtain rfl | rfl := h <;> decide

theorem witness_SDispAckResult :
    (∀ c ∈ [1#6, 31#6], ∀ s, s = senderAt 1#32 c .run (flags true false false) →
      s.sender.fsm ≠ .idle ∧ s.sender.pend.ack = true ∧ s.sender.fsm = .run ∧
        s.sender.cursor.toNat ≤ 31) ∧
    (∀ s, s = senderAt 1#32 32#6 .done (flags true false false) →
      s.sender.fsm ≠ .idle ∧ s.sender.pend.ack = true ∧ s.sender.cursor.toNat = 32) := by
  constructor
  · intro c hc s hs
    subst hs
    revert c
    decide
  · intro s hs
    subst hs
    decide

theorem witness_SDispBitResult :
    (senderAt 0#32 3#6 .run (flags false true true)).sender.fsm ≠ .idle ∧
      (senderAt 0#32 3#6 .run (flags false true true)).sender.pend.bitZero = true ∧
      (senderAt 0#32 3#6 .run (flags false true true)).sender.pend.bitOne = true := by decide

theorem witness_RStartResult :
    (clean true).receiver.fsm = .idle ∧ (midTransfer true).receiver.fsm ≠ .idle := by decide

/-- The clause of R133 and R134 in RUN. -/
theorem witness_RDispBitResult :
    ∀ c ∈ [0#6, 31#6], ∀ b : Bool,
      (receiverAt 0#32 c .run (flags false true true)).receiver.fsm = .run ∧
      (receiverAt 0#32 c .run (flags false true true)).receiver.cursor.toNat ≤ 31 ∧
      (receiverAt 0#32 c .run (flags false true true)).receiver.pend.get (bitKind b) = true := by
  decide

/-- The clause of R133 and R134 in DONE. -/
theorem witness_RDispBitResult_overrun :
    ∀ b : Bool, (receiverAt 0#32 32#6 .done (flags false true true)).receiver.fsm = .done ∧
      (receiverAt 0#32 32#6 .done (flags false true true)).receiver.pend.get (bitKind b) = true := by
  decide

theorem witness_RDispAckResult :
    (receiverAt 0#32 5#6 .run (flags true false false)).receiver.fsm ≠ .idle ∧
      (receiverAt 0#32 5#6 .run (flags true false false)).receiver.pend.ack = true := by decide

theorem witness_TDeliverResult :
    ∀ (d : Side) (k : Kind), ((allInFlight false).wire d).get k = true := by
  intro d k; cases d <;> cases k <;> rfl

theorem witness_TDropResult :
    (allInFlight true).transportLossy = true ∧
      ∀ (d : Side) (k : Kind), ((allInFlight true).wire d).get k = true :=
  ⟨rfl, by intro d k; cases d <;> cases k <;> rfl⟩

theorem witness_TDropRefusedWhenLossless :
    ((allInFlight false).withTrace [0x2A]).transportLossy = false ∧
      ((allInFlight false).withTrace [0x2A]).trace = encode (Instr.tDrop .sender .ack) ++ [] := by
  decide

theorem witness_DispatchEnabledness :
    (after (dispOp .sender .ack) (senderAt 1#32 31#6 .run (flags true true true))
      fun _ => true) = some true ∧
    (∀ s, s = receiverAt 0#32 0#6 .idle (flags false true false) →
      (after (.rStart 1) s fun _ => true) = some true ∧ s.fsm .receiver = .idle ∧
        (Instr.rStart 1).isStartOf .receiver = true ∧
        (Instr.rStart 1).isResetOf .receiver = false ∧
        (s.pend .receiver).get .bitOne = true) := by
  constructor
  · decide
  · intro s hs
    subst hs
    decide

theorem witness_EnabledOperationsComplete :
    EngineInv (midTransfer true) ∧ enabled (.tDropBit0 .receiver) (midTransfer true) ∧
      ¬ enabled .rDispBit0 (midTransfer true) :=
  ⟨witness_EngineInv_mid true, ⟨rfl, rfl⟩, fun h => absurd h.2 (by decide)⟩

/-- A receiver in lock step in which both bit kinds are latched. -/
def bothBitsLatched : State :=
  { midTransfer true with
    receiver := { (midTransfer true).receiver with pend := flags false true true } }

theorem witness_AnyPendingKindMayBeNext :
    EngineInv bothBitsLatched ∧ bothBitsLatched.fsm .receiver ≠ .idle ∧
      Kind.bitZero ≠ Kind.bitOne ∧ (bothBitsLatched.pend .receiver).get .bitZero = true ∧
      (bothBitsLatched.pend .receiver).get .bitOne = true := by
  refine ⟨⟨(witness_EngineInv_mid true).sender, ?_⟩, by decide, by decide, rfl, rfl⟩
  have h := (witness_EngineInv_mid true).receiver
  exact ⟨h.cursor_le, h.idle_cursor, h.run_cursor, h.done_iff, h.unreceived_zero⟩

theorem witness_IllegalCursorFaults :
    (∀ c ∈ [33#6, 63#6], ∀ s, s = senderAt 0#32 c .run (flags true false false) →
      s.sender.fsm ≠ .idle ∧ s.sender.pend.ack = true ∧ 32 < s.sender.cursor.toNat) ∧
    (∀ c ∈ [32#6, 63#6], ∀ b : Bool, ∀ s, s = receiverAt 0#32 c .run (flags false true true) →
      s.receiver.fsm = .run ∧ 32 ≤ s.receiver.cursor.toNat ∧
        s.receiver.pend.get (bitKind b) = true) ∧
    EngineInv (midTransfer true) := by
  refine ⟨?_, ?_, witness_EngineInv_mid true⟩
  · intro c hc s hs
    subst hs
    revert c
    decide
  · intro c hc b s hs
    subst hs
    revert c
    revert b
    decide

/-- The engine invariant with an operation that completes, alone and as a step. -/
theorem witness_EngineInvariantKept :
    EngineInv (midTransfer false) ∧
      (after (.tDeliverBit0 .receiver) (midTransfer false) fun _ => true) = some true ∧
      EngineInv ((midTransfer false).withTrace [0x24]) ∧
      ∃ t, step ((midTransfer false).withTrace [0x24]) = .next t :=
  ⟨witness_EngineInv_mid false, by decide,
    ⟨(witness_EngineInv_mid false).sender, (witness_EngineInv_mid false).receiver⟩, _, rfl⟩

theorem witness_EngineInvariantAtPowerOn : Clean (clean true) ∧ Clean (clean false) :=
  ⟨⟨rfl, rfl, rfl⟩, ⟨rfl, rfl, rfl⟩⟩

/-- A START of a clean link with the widest handle a 4-bit port carries. -/
theorem witness_PeerHandlesFitTheirWidth :
    PeersFit ((clean true).withTrace [0x18, 15]) ∧
      ∃ t, step ((clean true).withTrace [0x18, 15]) = .next t :=
  ⟨⟨rfl, rfl⟩, _, rfl⟩

theorem witness_ParametersFixed :
    (after .sDispAck (senderAt 1#32 31#6 .run (flags true false false)) fun _ => true) =
      some true ∧ ∃ t, step ((allInFlight true).withTrace [0x2E, 0x2E]) = .next t :=
  ⟨by decide, _, rfl⟩

/-- A receiver with all three errors, and an operation that completes there. -/
def allErrors : State :=
  { receiverAt 0#32 32#6 .done (flags true true true) with
    receiver := { (receiverAt 0#32 32#6 .done (flags true true true)).receiver with
      errUnexp := true, errStart := true, errOverrun := true } }

theorem witness_ErrorFlagsSticky :
    (after .rDispBit0 allErrors fun _ => true) = some true ∧
      allErrors.errorFlag .overrun = true ∧ Instr.rDispBit0.isResetOf .receiver = false ∧
      (after .rReset allErrors fun _ => true) = some true ∧
      Instr.rReset.isResetOf ErrorFlag.overrun.side = true ∧
      (after .rDispBit1 (receiverAt 0#32 32#6 .done (flags false true false))
        fun t => t.errorFlag .overrun) = some true := by decide

theorem witness_CausesOfErrors :
    (after .sDispBit0 (senderAt 0#32 3#6 .run (flags false true true)) fun _ => true) =
      some true ∧ Instr.sDispBit0.isReset = false := by decide

theorem witness_SenderRegistersFinal :
    EngineInv (lastRound true) ∧
      (after (.sStart 1#32 3) (lastRound true) fun _ => true) = some true ∧
      (Instr.sStart 1#32 3).isResetOf .sender = false ∧
      ¬ ((Instr.sStart 1#32 3).isStartOf .sender = true ∧ (lastRound true).sender.fsm = .idle) ∧
      (lastRound true).sender.fsm ≠ .idle ∧ (lastRound true).sender.fsm = .done :=
  ⟨witness_EngineInv_last true, by decide, by decide, by decide, by decide, by decide⟩

theorem witness_ReceiverRegistersFinal :
    (after .rDispBit0 allErrors fun _ => true) = some true ∧
      Instr.rDispBit0.isResetOf .receiver = false ∧ allErrors.receiver.fsm = .done := by decide

/-- The link of `midTransfer` with an ACK latched at the sender (R33 holds; lock step does not). -/
def ackLatched : State :=
  { midTransfer true with sender := { (midTransfer true).sender with pend := flags true false false } }

theorem witness_SenderCursorCountsBitsSent :
    EngineInv ackLatched ∧ (after .sDispAck ackLatched fun _ => true) = some true ∧
      Instr.sDispAck.isResetOf .sender = false := by
  have h := (witness_EngineInv_mid true).sender
  exact ⟨⟨⟨h.cursor_le, h.idle_cursor, h.run_cursor, h.done_iff⟩,
    (witness_EngineInv_mid true).receiver⟩, by decide, by decide⟩

theorem witness_ReceiverAcknowledgesEachBit :
    EngineInv bothBitsLatched ∧ (after .rDispBit1 bothBitsLatched fun _ => true) = some true ∧
      Instr.rDispBit1.isResetOf .receiver = false ∧ Instr.rDispBit1.isBitDispatch = true ∧
      bothBitsLatched.receiver.fsm = .run ∧
      (after (.rStart 0) bothBitsLatched fun _ => true) = some true ∧
      ¬ ((Instr.rStart 0).isBitDispatch = true ∧ bothBitsLatched.receiver.fsm = .run) :=
  ⟨witness_AnyPendingKindMayBeNext.1, by decide, by decide, by decide, by decide, by decide,
    by decide⟩

theorem witness_AtMostOneEmission :
    (after .rDispBit1 bothBitsLatched fun t => t.ntfOutValid .receiver) = some true ∧
      (after .sDispAck ackLatched fun t => t.ntfOutValid .sender) = some true := by decide

theorem witness_AgentsTouchOnlyTheirOwn :
    (after .sDispAck ackLatched fun _ => true) = some true ∧
      Instr.sDispAck.agent = .engine .sender ∧
      (after .rDispBit1 bothBitsLatched fun _ => true) = some true ∧
      Instr.rDispBit1.agent = .engine .receiver ∧
      (after (.tDeliverBit0 .receiver) (midTransfer true) fun _ => true) = some true ∧
      (Instr.tDeliverBit0 .receiver).agent = .transport := by decide

theorem witness_WiresAreCausal :
    ((clean true).wire .receiver).get .bitOne = false ∧
      (after (.sStart 0x80000000#32 2) (clean true) fun t => (t.wire .receiver).get .bitOne) =
        some true ∧
      ((midTransfer true).wire .receiver).get .bitZero = true ∧
      (after (.tDropBit0 .receiver) (midTransfer true) fun t =>
        (t.wire .receiver).get .bitZero) = some false := by decide

theorem witness_StaleNotificationSurvivesReset :
    ((midTransfer true).wire .receiver).get .bitZero = true ∧
      ((allInFlight true).wire .sender).get .ack = true := by decide

theorem witness_ArrivalsCoalesce :
    ((bothBitsLatched.pend .receiver).get .bitZero = true) ∧
      ∃ t, exec (Instr.tDeliver .receiver .bitZero) bothBitsLatched = .next t :=
  ⟨rfl, _, rfl⟩

theorem witness_PulsesSetTheLatches : (0b001#3 : BitVec 3) ≠ 0#3 ∧ (0b111#3 : BitVec 3) ≠ 0#3 := by
  decide

/-- Two latched bits dispatched in one cycle, which presents two ACKs; and a bit latched and dispatched
in the cycle it arrives. -/
theorem witness_CorrectCycleFrame :
    (∃ t, CorrectCycle .receiver bothBitsLatched t [⟨.ack, 1⟩, ⟨.ack, 1⟩]) ∧
      ∃ t, CorrectCycle .sender (midTransfer true) t [⟨.bitOne, 2⟩] :=
  ⟨⟨_, [.rDispBit0, .rDispBit1], by decide, rfl⟩, ⟨_, [.sLatchAck, .sDispAck], by decide, rfl⟩⟩

theorem witness_LockStepKept :
    EngineInv (midTransfer true) ∧ LockStep (midTransfer true) ∧
      (Instr.tDropBit0 .receiver).isLinkOp = true ∧ (Instr.tDropBit0 .receiver).isReset = false ∧
      (∀ d, (Instr.tDropBit0 .receiver).isStartOf d = true → (midTransfer true).fsm d = .idle) ∧
      ∃ t, exec (.tDropBit0 .receiver) (midTransfer true) = .next t :=
  ⟨witness_EngineInv_mid true, witness_LockStep_mid true, rfl, rfl, nofun, _, rfl⟩

/-- A start of the link and the first bit delivered. -/
theorem witness_LockStepReachable :
    Clean (clean false) ∧ cleanRun (linkStart 0x80000000#32 1 2 ++ [.tDeliverBit1 .receiver]) ∧
      ∃ t, execAll (linkStart 0x80000000#32 1 2 ++ [.tDeliverBit1 .receiver]) (clean false) =
        .next t :=
  ⟨⟨rfl, rfl, rfl⟩, ⟨by decide, by decide, by decide⟩, _, rfl⟩

/-- The bit on the wire is the one the receiver waits for, in the middle and in the last round. -/
theorem witness_RoundCarriesOneBit :
    (EngineInv (midTransfer false) ∧ LockStep (midTransfer false) ∧
      (midTransfer false).receiver.fsm = .run ∧
      (midTransfer false).wires.toReceiver.get
        (bitKind ((midTransfer false).sender.payload.getLsbD
          (31 - (midTransfer false).receiver.cursor.toNat))) = true) ∧
    (EngineInv (lastRound false) ∧ LockStep (lastRound false) ∧
      (lastRound false).receiver.fsm = .run ∧
      (lastRound false).wires.toReceiver.get
        (bitKind ((lastRound false).sender.payload.getLsbD
          (31 - (lastRound false).receiver.cursor.toNat))) = true) :=
  ⟨⟨witness_EngineInv_mid false, witness_LockStep_mid false, rfl, by decide⟩,
    ⟨witness_EngineInv_last false, witness_LockStep_last false, rfl, by decide⟩⟩

theorem witness_LostNotificationStalls :
    (EngineInv (midTransfer true) ∧ LockStep (midTransfer true) ∧
      (midTransfer true).receiver.fsm ≠ .done ∧
      ∃ t, exec (Instr.tDrop .receiver .bitZero) (midTransfer true) = .next t) ∧
    (EngineInv (lastRound true) ∧ LockStep (lastRound true) ∧
      (lastRound true).receiver.fsm ≠ .done ∧
      ∃ t, exec (Instr.tDrop .receiver .bitZero) (lastRound true) = .next t ∧
        t.sender.fsm = .done) :=
  ⟨⟨witness_EngineInv_mid true, witness_LockStep_mid true, by decide, _, rfl⟩,
    ⟨witness_EngineInv_last true, witness_LockStep_last true, by decide, _, rfl, rfl⟩⟩

/-- The link of `midTransfer` after the loss of its bit. -/
def stalled : State := { midTransfer true with wires := Wires.empty }

theorem witness_OnlyResetLeavesAStall :
    Stalled stalled ∧ NothingPending stalled ∧ stalled.sender.fsm ≠ .idle ∧
      (∀ i ∈ [Instr.sStart 0#32 1, .rStart 1], i.isLinkOp = true ∧ i.isReset = false) ∧
      ∃ t, execAll [.sStart 0#32 1, .rStart 1] stalled = .next t :=
  ⟨⟨fun _ hi => NothingPending.not_enabled ⟨rfl, rfl, rfl⟩ hi, fun h => absurd h.2 (by decide)⟩,
    ⟨rfl, rfl, rfl⟩, by decide, by decide, _, rfl⟩

theorem witness_Signed32IsTwosComplement :
    (-(2 ^ 31) : Int) ≤ -2147483648 ∧ (-2147483648 : Int) < 2 ^ 31 ∧
      (-(2 ^ 31) : Int) ≤ 2147483647 ∧ (2147483647 : Int) < 2 ^ 31 := by decide

/-! The two transfers of `0xC0000001`, the receiver started first and the sender started first
(programs P1 and P2 of 95_test_vectors.md), as executions. -/

/-- The 32 rounds of a payload. -/
def rounds (v : Word) : List Instr := (List.range 32).flatMap fun r => roundOps (v.getLsbD (31 - r))

/-- P1: `R.START` first. -/
def receiverFirst : List Instr := linkStart 0xC0000001#32 1 2 ++ rounds 0xC0000001#32

/-- P2: `S.START` first. -/
def senderFirst : List Instr := (linkStart 0xC0000001#32 1 2).reverse ++ rounds 0xC0000001#32

/-- A list of operations with its two STARTs in front, that completes and ends with nothing pending, is a
transfer. -/
theorem transfer_of {v : Word} {hs hr : Peer} {a b : Instr} {rest : List Instr}
    (hab : (a = .sStart v hr ∧ b = .rStart hs) ∨ (a = .rStart hs ∧ b = .sStart v hr))
    (hrest : ∀ i ∈ rest, i.isLinkOp = true ∧ i.isReset = false ∧ i.isStart = false)
    (hc : completes (a :: b :: rest) (clean false) = true)
    (hn : NothingPending (lastOf (a :: b :: rest) (clean false))) :
    Transfer (statesOf (a :: b :: rest) (clean false)) (fun n => (a :: b :: rest)[n]?) v hs hr := by
  have hplain : ∀ (n : Nat) (i : Instr), rest[n]? = some i → i.isReset = false ∧ ∀ d, i.isStartOf d = false := by
    intro n i hi
    obtain ⟨-, h1, h2⟩ := hrest i (List.mem_of_getElem? hi)
    refine ⟨h1, fun d => ?_⟩
    simp only [Instr.isStart, Bool.or_eq_false_iff] at h2
    cases d
    · exact h2.1
    · exact h2.2
  refine
    { execution := execution_statesOf _ _ hc ?_
      fair := weaklyFair_statesOf fun i hi => hn.not_enabled hi
      clean := by rw [statesOf_zero]; exact ⟨rfl, rfl, rfl⟩
      lossless := by rw [statesOf_zero]; rfl
      no_reset := ?_
      starts_sender := ?_
      starts_receiver := ?_
      one_start := ?_ }
  · intro i hi
    simp only [List.mem_cons] at hi
    rcases hi with rfl | rfl | hi
    · rcases hab with ⟨rfl, rfl⟩ | ⟨rfl, rfl⟩ <;> rfl
    · rcases hab with ⟨rfl, rfl⟩ | ⟨rfl, rfl⟩ <;> rfl
    · exact (hrest i hi).1
  · intro n i hi
    rcases n with _ | _ | n
    · cases hi; rcases hab with ⟨rfl, rfl⟩ | ⟨rfl, rfl⟩ <;> rfl
    · cases hi; rcases hab with ⟨rfl, rfl⟩ | ⟨rfl, rfl⟩ <;> rfl
    · exact (hplain n i hi).1
  · rcases hab with ⟨rfl, -⟩ | ⟨-, rfl⟩
    · exact ⟨0, rfl⟩
    · exact ⟨1, rfl⟩
  · rcases hab with ⟨-, rfl⟩ | ⟨rfl, -⟩
    · exact ⟨1, rfl⟩
    · exact ⟨0, rfl⟩
  · intro d m n i j hi hj hdi hdj
    rcases m with _ | _ | m
    · rcases n with _ | _ | n
      · rfl
      · cases hi; cases hj
        rcases hab with ⟨rfl, rfl⟩ | ⟨rfl, rfl⟩ <;> cases d <;> simp at hdi hdj
      · rw [(hplain n j hj).2 d] at hdj; cases hdj
    · rcases n with _ | _ | n
      · cases hi; cases hj
        rcases hab with ⟨rfl, rfl⟩ | ⟨rfl, rfl⟩ <;> cases d <;> simp at hdi hdj
      · rfl
      · rw [(hplain n j hj).2 d] at hdj; cases hdj
    · rw [(hplain m i hi).2 d] at hdi; cases hdi

theorem rounds_plain :
    ∀ i ∈ rounds 0xC0000001#32, i.isLinkOp = true ∧ i.isReset = false ∧ i.isStart = false := by
  decide +kernel

/-- The end of P1 and P2, as 95_test_vectors.md states it. -/
def endState : State :=
  { clean false with
    sender := { Sender.reset with payload := 0xC0000001#32, cursor := 32#6, fsm := .done, peer := 2 }
    receiver :=
      { Receiver.reset with acc := 0xC0000001#32, cursor := 32#6, fsm := .done, peer := 1 } }

theorem receiverFirst_runs : completes receiverFirst (clean false) = true := by decide +kernel
theorem senderFirst_runs : completes senderFirst (clean false) = true := by decide +kernel
theorem receiverFirst_ends : lastOf receiverFirst (clean false) = endState := by decide +kernel
theorem senderFirst_ends : lastOf senderFirst (clean false) = endState := by decide +kernel

theorem endState_nothingPending : NothingPending endState := ⟨rfl, rfl, rfl⟩

theorem test_endState_status :
    endState.status .sender = 0x00000206#32 ∧ endState.status .receiver = 0x80000206#32 := by
  decide

/-- The hypotheses of RoundTrip: program P1. -/
theorem witness_RoundTrip :
    Transfer (statesOf receiverFirst (clean false)) (fun n => receiverFirst[n]?) 0xC0000001#32 1 2 :=
  transfer_of (.inr ⟨rfl, rfl⟩) rounds_plain receiverFirst_runs
    (by rw [show (_ :: _ :: _ : List Instr) = receiverFirst from rfl, receiverFirst_ends]
        exact endState_nothingPending)

/-- The hypotheses of StartupOrderIrrelevant: programs P1 and P2, and the first bit held. -/
theorem witness_StartupOrderIrrelevant :
    Transfer (statesOf receiverFirst (clean false)) (fun n => receiverFirst[n]?)
      0xC0000001#32 1 2 ∧
    Transfer (statesOf senderFirst (clean false)) (fun n => senderFirst[n]?) 0xC0000001#32 1 2 ∧
    (statesOf receiverFirst (clean false) 0).peerW = (statesOf senderFirst (clean false) 0).peerW ∧
    EngineInv firstBitHeld ∧ LockStep firstBitHeld ∧ firstBitHeld.transportLossy = false ∧
    firstBitHeld.sender.fsm ≠ .idle ∧ firstBitHeld.receiver.fsm = .idle :=
  ⟨witness_RoundTrip,
    transfer_of (.inl ⟨rfl, rfl⟩) rounds_plain senderFirst_runs
      (by rw [show (_ :: _ :: _ : List Instr) = senderFirst from rfl, senderFirst_ends]
          exact endState_nothingPending),
    rfl, witness_EngineInv_held, witness_LockStep_held, rfl, by decide, rfl⟩

end Sys2Proof.Tests
end

/-! ### A trace that decodes is what the encoder writes

The decoder reads the fields of 30_encoding.md R82 to R85, the encoder writes the words of the map R88.
Each event word is put together from its fields, so that a branch of the decoder, which fixes the fields,
fixes the word. -/

namespace Sys2Proof

variable {peerW : Nat} {ev : EventWord} {ws rest : List Nat} {i : Instr}

/-- The fields of R82 fill the event word: AGENT, CLASS, SUB from bit 5 down. -/
theorem EventWord.eq_of_fields {a c s : BitVec 2} (ha : ev.agent = a) (hc : ev.cls = c)
    (hs : ev.sub = s) : ev = a ++ c ++ s := by
  subst ha hc hs
  unfold EventWord.agent EventWord.cls EventWord.sub
  rw [BitVec.extractLsb'_append_extractLsb'_eq_extractLsb' (show 4 = 2 + 2 from rfl),
    BitVec.extractLsb'_append_extractLsb'_eq_extractLsb' (show 2 = 0 + 2 from rfl),
    BitVec.extractLsb'_eq_self]

/-- OP and DST of a transport word, as the two bits that stand where an engine word has its CLASS (R85). -/
def opDstCode (isDrop : Bool) : Side → BitVec 2
  | .sender => BitVec.ofBool isDrop ++ 0#1
  | .receiver => BitVec.ofBool isDrop ++ 1#1

theorem EventWord.cls_eq_opDstCode (ev : EventWord) : ev.cls = opDstCode ev.op ev.dst := by
  revert ev
  decide

/-! The word of each family, put together from its fields (R84, R85, R88). -/

theorem eventWord_sDisp (k : Kind) : eventWord (Instr.sDisp k) = 0b00#2 ++ 0b00#2 ++ k.code := by
  cases k <;> rfl
theorem eventWord_sLatch (k : Kind) : eventWord (Instr.sLatch k) = 0b00#2 ++ 0b01#2 ++ k.code := by
  cases k <;> rfl
theorem eventWord_rDisp (k : Kind) : eventWord (Instr.rDisp k) = 0b01#2 ++ 0b00#2 ++ k.code := by
  cases k <;> rfl
theorem eventWord_rLatch (k : Kind) : eventWord (Instr.rLatch k) = 0b01#2 ++ 0b01#2 ++ k.code := by
  cases k <;> rfl
theorem eventWord_tDeliver (d : Side) (k : Kind) :
    eventWord (Instr.tDeliver d k) = 0b10#2 ++ opDstCode false d ++ k.code := by
  cases d <;> cases k <;> rfl
theorem eventWord_tDrop (d : Side) (k : Kind) :
    eventWord (Instr.tDrop d k) = 0b10#2 ++ opDstCode true d ++ k.code := by
  cases d <;> cases k <;> rfl

/-- Operation `i` is spelled by the event word `ev` and the operand words in front of `rest`, each operand
as wide as its port (R87). -/
structure Spelled (peerW : Nat) (ev : EventWord) (ws rest : List Nat) (i : Instr) : Prop where
  word : eventWord i = ev
  operands : ws = operandWords i ++ rest
  fit : i.operandsFit peerW = true

/-- A family without operand words: the fields its branch of the decoder fixes spell it. -/
theorem Spelled.of_byKind {a c : BitVec 2} {f : Kind → Instr} (ha : ev.agent = a) (hc : ev.cls = c)
    (hword : ∀ k, eventWord (f k) = a ++ c ++ k.code) (hoperands : ∀ k, operandWords (f k) = [])
    (hfit : ∀ k, (f k).operandsFit peerW = true) (e : byKind ev.sub ws f = .ok (i, rest)) :
    Spelled peerW ev ws rest i := by
  obtain ⟨k, hk, rfl, rfl⟩ := byKind_ok e
  exact ⟨(hword k).trans (EventWord.eq_of_fields ha hc hk.symm).symm, by rw [hoperands k]; rfl, hfit k⟩

theorem Spelled.of_takeSStart (hev : ev = 0x08#6) (e : takeSStart peerW ws = .ok (i, rest)) :
    Spelled peerW ev ws rest i := by
  obtain ⟨v, h, rfl, rfl, hf⟩ := takeSStart_ok e
  exact ⟨hev.symm, rfl, hf⟩

theorem Spelled.of_takeRStart (hev : ev = 0x18#6) (e : takeRStart peerW ws = .ok (i, rest)) :
    Spelled peerW ev ws rest i := by
  obtain ⟨h, rfl, rfl, hf⟩ := takeRStart_ok e
  exact ⟨hev.symm, rfl, hf⟩

/-- The last branch of the decoders on a 2-bit field. -/
theorem eq_three_of_ne {c : BitVec 2} (h0 : c ≠ 0b00#2) (h1 : c ≠ 0b01#2) (h2 : c ≠ 0b10#2) :
    c = 0b11#2 := by
  bv_omega

theorem Spelled.of_decodeSender (ha : ev.agent = 0b00#2)
    (e : decodeSender peerW ev ws = .ok (i, rest)) : Spelled peerW ev ws rest i := by
  unfold decodeSender at e
  split at e
  next hc => exact .of_byKind ha hc eventWord_sDisp operandWords_sDisp (by simp) e
  next h0 =>
  split at e
  next hc => exact .of_byKind ha hc eventWord_sLatch operandWords_sLatch (by simp) e
  next h1 =>
  split at e
  next hc =>
    split at e
    next hs => exact .of_takeSStart (EventWord.eq_of_fields ha hc hs) e
    next =>
    split at e
    next hs =>
      cases e
      exact ⟨(EventWord.eq_of_fields ha hc hs).symm, rfl, rfl⟩
    next => cases e
  next h2 =>
  split at e
  next hs =>
    cases e
    exact ⟨(EventWord.eq_of_fields ha (eq_three_of_ne h0 h1 h2) hs).symm, rfl, rfl⟩
  next => cases e

theorem Spelled.of_decodeReceiver (ha : ev.agent = 0b01#2)
    (e : decodeReceiver peerW ev ws = .ok (i, rest)) : Spelled peerW ev ws rest i := by
  unfold decodeReceiver at e
  split at e
  next hc => exact .of_byKind ha hc eventWord_rDisp operandWords_rDisp (by simp) e
  next =>
  split at e
  next hc => exact .of_byKind ha hc eventWord_rLatch operandWords_rLatch (by simp) e
  next =>
  split at e
  next hc =>
    split at e
    next hs => exact .of_takeRStart (EventWord.eq_of_fields ha hc hs) e
    next =>
    split at e
    next hs =>
      cases e
      exact ⟨(EventWord.eq_of_fields ha hc hs).symm, rfl, rfl⟩
    next => cases e
  next => cases e

theorem Spelled.of_decodeTransport (ha : ev.agent = 0b10#2)
    (e : decodeTransport ev ws = .ok (i, rest)) : Spelled peerW ev ws rest i := by
  have hc := ev.cls_eq_opDstCode
  unfold decodeTransport at e
  split at e
  next ho =>
    rw [ho] at hc
    exact .of_byKind ha hc (eventWord_tDrop _) (operandWords_tDrop _) (by simp) e
  next ho =>
    rw [Bool.eq_false_of_not_eq_true ho] at hc
    exact .of_byKind ha hc (eventWord_tDeliver _) (operandWords_tDeliver _) (by simp) e

theorem Spelled.of_decodeEvent (e : decodeEvent peerW ev ws = .ok (i, rest)) :
    Spelled peerW ev ws rest i := by
  unfold decodeEvent at e
  split at e
  next ha => exact .of_decodeSender ha e
  next =>
  split at e
  next ha => exact .of_decodeReceiver ha e
  next =>
  split at e
  next ha => exact .of_decodeTransport ha e
  next => cases e

/-- A trace that decodes is the encoding of its operation, operands as wide as their ports, and what is
left of the trace. -/
theorem eq_encode_append_of_decode (e : decode peerW ws = .ok (i, rest)) :
    ws = encode i ++ rest ∧ i.operandsFit peerW = true := by
  obtain ⟨w, ws', rfl, hw, e'⟩ := decode_ok e
  obtain ⟨hword, rfl, hfit⟩ := Spelled.of_decodeEvent e'
  have hnat : (eventWord i).toNat = w := by
    rw [hword, BitVec.toNat_ofNat, Nat.mod_eq_of_lt hw]
  exact ⟨by rw [encode, hnat]; rfl, hfit⟩

end Sys2Proof

/-! ### The open parameters, the trace and the peer handles along a transition

Each a case analysis of `Effect`, the one statement of what `exec` can do. -/

namespace Sys2Proof.Machine

variable {s t : State} {i : Instr}

/-- No operation writes a parameter or the trace (00_scope.md R5). -/
theorem Effect.keeps_parameters_trace (h : Effect s i t) :
    t.peerW = s.peerW ∧ t.transportLossy = s.transportLossy ∧ t.trace = s.trace := by
  cases h <;> exact ⟨rfl, rfl, rfl⟩

/-- T.DROP takes effect only on a lossy transport (30_encoding.md R85). -/
theorem Effect.dropLegal (h : Effect s i t) : i.dropLegal s.transportLossy = true := by
  cases h with
  | dropS k hl | dropR k hl => simp [Instr.dropLegal, hl]
  | sUnexpected | bitTaken | overrun | sLatch | rLatch | deliverS | deliverR =>
    simp [Instr.dropLegal]
  | _ => rfl

/-- A START stores its operand and a RESET the handle 0; no other operation writes a handle
(10_state.md R24, R30). -/
theorem Effect.peersFit (h : Effect s i t) (hfit : i.operandsFit s.peerW = true) (hs : PeersFit s) :
    PeersFit t := by
  obtain ⟨hsender, hreceiver⟩ := hs
  cases h with
  | sReset => exact ⟨peerFits_zero _, hreceiver⟩
  | rReset => exact ⟨hsender, peerFits_zero _⟩
  | sStart => exact ⟨hfit, hreceiver⟩
  | rStart => exact ⟨hsender, hfit⟩
  | _ => exact ⟨hsender, hreceiver⟩

/-- A step takes the effect of a well-formed operation, whose words it consumes (30_encoding.md R87). -/
theorem step_effect (h : step s = .next t) :
    ∃ i rest, s.trace = encode i ++ rest ∧ i.operandsFit s.peerW = true ∧ i.presentable = true ∧
      Effect (s.withTrace rest) i t := by
  obtain ⟨i, rest, hdec, hpres, hexec⟩ := step_next h
  obtain ⟨htrace, hfit⟩ := eq_encode_append_of_decode hdec
  exact ⟨i, rest, htrace, hfit, hpres, exec_effect hexec⟩

/-- Settles O27: the reset handles are 0, the decoder admits only operands of the ports' width, and no
operation stores anything else. -/
theorem peerHandlesFitTheirWidth : Obligations.PeerHandlesFitTheirWidth := by
  refine ⟨⟨peerFits_zero _, peerFits_zero _⟩, fun s t hs h => ?_⟩
  obtain ⟨i, rest, -, hfit, -, heff⟩ := step_effect h
  exact heff.peersFit hfit hs

/-- Settles O28, by what every `Effect` keeps and the soundness of the decoder. -/
theorem parametersFixed : Obligations.ParametersFixed := by
  refine ⟨fun i s t h => (exec_effect h).keeps_parameters_trace, fun s t h => ?_⟩
  obtain ⟨i, rest, htrace, hfit, hpres, heff⟩ := step_effect h
  obtain ⟨hpeer, hlossy, hrest⟩ := heff.keeps_parameters_trace
  have hdrop : i.dropLegal s.transportLossy = true := heff.dropLegal
  refine ⟨hpeer, hlossy, i, by simp [Instr.wellFormed, hfit, hpres, hdrop], ?_⟩
  rw [htrace, hrest, State.withTrace_trace]

/-! ### `signed32` -/

/-- The formula of 00_scope.md R7 is the library's two's-complement reading: bit 31 is the sign bit. -/
theorem signed32_eq_toInt (v : Word) : signed32 v = v.toInt := by
  rw [BitVec.toInt_eq_msb_cond, BitVec.msb_eq_getLsbD_last]
  rfl

/-- Settles O50, by the library's range and inverse of the two's-complement reading. -/
theorem signed32IsTwosComplement : Obligations.Signed32IsTwosComplement := by
  refine ⟨fun v => ?_, fun n hlo hhi => ?_⟩
  · rw [signed32_eq_toInt]
    exact ⟨rfl, v.le_toInt, v.toInt_lt⟩
  · rw [signed32_eq_toInt]
    exact BitVec.toInt_ofInt_eq_self (by decide) hlo hhi

end Sys2Proof.Machine

/-! ### The engine invariant of 10_state.md R33 -/

namespace Sys2Proof.Machine

variable {s t : State} {i : Instr}

/-- The sender's invariant speaks of the cursor and the FSM state only. -/
theorem Sender.Inv.of_kept {e e' : Sender} (h : e.Inv) (hcursor : e'.cursor = e.cursor)
    (hfsm : e'.fsm = e.fsm) : e'.Inv where
  cursor_le := hcursor ▸ h.cursor_le
  idle_cursor := by rw [hcursor, hfsm]; exact h.idle_cursor
  run_cursor := by rw [hcursor, hfsm]; exact h.run_cursor
  done_iff := by rw [hcursor, hfsm]; exact h.done_iff

/-- The receiver's invariant speaks of the accumulator, the cursor and the FSM state only. -/
theorem Receiver.Inv.of_kept {e e' : Receiver} (h : e.Inv) (hacc : e'.acc = e.acc)
    (hcursor : e'.cursor = e.cursor) (hfsm : e'.fsm = e.fsm) : e'.Inv where
  cursor_le := hcursor ▸ h.cursor_le
  idle_cursor := by rw [hacc, hcursor, hfsm]; exact h.idle_cursor
  run_cursor := by rw [hcursor, hfsm]; exact h.run_cursor
  done_iff := by rw [hcursor, hfsm]; exact h.done_iff
  unreceived_zero := by rw [hacc, hcursor]; exact h.unreceived_zero

theorem Sender.reset_inv : Sender.reset.Inv where
  cursor_le := by decide
  idle_cursor _ := rfl
  run_cursor := nofun
  done_iff := by decide

/-- An engine that has received nothing, IDLE or in RUN, meets the receiver's invariant. -/
theorem Receiver.inv_of_empty {e : Receiver} (hacc : e.acc = 0#32) (hcursor : e.cursor = 0#6)
    (hfsm : e.fsm ≠ .done) : e.Inv where
  cursor_le := by simp [hcursor]
  idle_cursor _ := by simp [hcursor, hacc]
  run_cursor _ := by simp [hcursor]
  done_iff := by simp [hcursor, hfsm]
  unreceived_zero j _ := by simp [hacc]

theorem Receiver.reset_inv : Receiver.reset.Inv := Receiver.inv_of_empty rfl rfl nofun

/-- A started sender below 32 has bits to send: it is in RUN. -/
theorem Sender.Inv.run_of_lt {e : Sender} (h : e.Inv) (hstarted : e.fsm ≠ .idle)
    (hlt : e.cursor.toNat < 32) : e.fsm = .run := by
  cases hf : e.fsm with
  | idle => exact absurd hf hstarted
  | run => rfl
  | done =>
    have := h.done_iff.mp hf
    omega

theorem Sender.inv_of_run {e : Sender} (hfsm : e.fsm = .run) (hlo : 1 ≤ e.cursor.toNat)
    (hhi : e.cursor.toNat ≤ 31) : e.Inv where
  cursor_le := by omega
  idle_cursor := by simp [hfsm]
  run_cursor _ := ⟨hlo, hhi⟩
  done_iff := by simp [hfsm]; omega

theorem Sender.inv_of_done {e : Sender} (hfsm : e.fsm = .done) (hcursor : e.cursor.toNat = 32) :
    e.Inv where
  cursor_le := by omega
  idle_cursor := by simp [hfsm]
  run_cursor := by simp [hfsm]
  done_iff := by simp [hfsm, hcursor]

/-- S.EMIT's effect leads from RUN to RUN or, with the 32nd bit, to DONE (40_sender.md R103). -/
theorem State.sendBit_inv (n : Nat) (hrun : s.sender.fsm = .run)
    (hlt : s.sender.cursor.toNat < 32) :
    (s.sendBit n).sender.Inv := by
  have hcursor : (s.sendBit n).sender.cursor.toNat = s.sender.cursor.toNat + 1 := cursor_succ hlt
  have hfsm : (s.sendBit n).sender.fsm = if s.sender.cursor.toNat = 31 then .done else .run :=
    hrun ▸ fsmAfter_succ s.sender.fsm hlt
  split at hfsm
  · exact Sender.inv_of_done hfsm (by omega)
  · exact Sender.inv_of_run hfsm (by omega) (by omega)

theorem Receiver.inv_of_run {e : Receiver} (hfsm : e.fsm = .run) (hcursor : e.cursor.toNat ≤ 31)
    (hzero : ∀ j : Nat, j + e.cursor.toNat ≤ 31 → e.acc.getLsbD j = false) : e.Inv where
  cursor_le := by omega
  idle_cursor := by simp [hfsm]
  run_cursor _ := hcursor
  done_iff := by simp [hfsm]; omega
  unreceived_zero := hzero

theorem Receiver.inv_of_done {e : Receiver} (hfsm : e.fsm = .done) (hcursor : e.cursor.toNat = 32) :
    e.Inv where
  cursor_le := by omega
  idle_cursor := by simp [hfsm]
  run_cursor := by simp [hfsm]
  done_iff := by simp [hfsm, hcursor]
  unreceived_zero j hj := by omega

/-- The bit the cursor picks is written and the cursor moves past it: the bits below stay 0
(41_receiver.md R133, R134). -/
theorem State.takeBit_inv (b : Bool) (h : s.receiver.Inv) (hrun : s.receiver.fsm = .run)
    (hlt : s.receiver.cursor.toNat < 32) :
    (s.takeBit (31 - s.receiver.cursor.toNat) b).receiver.Inv := by
  have hcursor (n : Nat) : (s.takeBit n b).receiver.cursor.toNat = s.receiver.cursor.toNat + 1 :=
    cursor_succ hlt
  have hfsm (n : Nat) : (s.takeBit n b).receiver.fsm =
      if s.receiver.cursor.toNat = 31 then .done else .run :=
    hrun ▸ fsmAfter_succ s.receiver.fsm hlt
  by_cases hlast : s.receiver.cursor.toNat = 31
  · exact Receiver.inv_of_done (by rw [hfsm, if_pos hlast]) (by rw [hcursor, hlast])
  · refine Receiver.inv_of_run (by rw [hfsm, if_neg hlast]) (by rw [hcursor]; omega) fun j hj => ?_
    rw [hcursor] at hj
    rw [State.takeBit_receiver_acc, getLsbD_setBit _ (by omega), if_neg (by omega)]
    exact h.unreceived_zero j (by omega)

theorem Effect.sender_inv (h : Effect s i t) (hs : s.sender.Inv) : t.sender.Inv := by
  cases h with
  | sReset => exact Sender.reset_inv
  | sStart => exact State.sendBit_inv _ rfl (show (0#6 : Cursor).toNat < 32 by decide)
  | sEmit hrun hlt => exact State.sendBit_inv _ hrun hlt
  | ackEmits hstarted _ hlt => exact State.sendBit_inv _ (hs.run_of_lt hstarted hlt) hlt
  | _ => exact hs.of_kept rfl rfl

theorem Effect.receiver_inv (h : Effect s i t) (hr : s.receiver.Inv) : t.receiver.Inv := by
  cases h with
  | rReset => exact Receiver.reset_inv
  | rStart => exact Receiver.inv_of_empty rfl rfl nofun
  | bitTaken b hrun _ hlt =>
    have hkept : (s.silent.setPend .receiver (bitKind b) false).receiver.Inv :=
      hr.of_kept rfl rfl rfl
    exact State.takeBit_inv b hkept hrun hlt
  | _ => exact hr.of_kept rfl rfl rfl

theorem Effect.engineInv (h : Effect s i t) (hs : EngineInv s) : EngineInv t :=
  ⟨h.sender_inv hs.sender, h.receiver_inv hs.receiver⟩

/-- Settles O25: each engine's half is kept by every `Effect`, and a step is the effect of the operation
it presents. -/
theorem engineInvariantKept : Obligations.EngineInvariantKept := by
  refine ⟨fun i s t hs h => (exec_effect h).engineInv hs, fun s t hs h => ?_⟩
  obtain ⟨i, rest, -, -, -, heff⟩ := step_effect h
  exact heff.engineInv ⟨hs.sender, hs.receiver⟩

/-- Settles O26: `Clean` and power-on fix both engines at their reset values. -/
theorem engineInvariantAtPowerOn : Obligations.EngineInvariantAtPowerOn := by
  refine ⟨⟨Sender.reset_inv, Receiver.reset_inv⟩, fun s hs => ⟨?_, ?_⟩⟩
  · rw [hs.sender]
    exact Sender.reset_inv
  · rw [hs.receiver]
    exact Receiver.reset_inv

/-! ### The fault of 93_implementation_defined.md U10 -/

theorem dispatch_eq_fault {d : Side} {k : Kind} {handler : State → Result} {f : Fault}
    (h : dispatch d k handler s = .fault f) : handler (s.silent.setPend d k false) = .fault f := by
  by_cases he : s.dispEnabled d k = true
  · rwa [dispatch_of_enabled he] at h
  · rw [dispatch_of_not_enabled he] at h
    cases h

theorem onAck_of_gt (h : 32 < s.sender.cursor.toNat) : onAck s = .fault .illegalCursor := by
  have hne : s.sender.cursor ≠ 32#6 := fun e => by simp [e] at h
  rw [onAck, if_neg (by omega), if_neg hne]

theorem onAck_ne_fault (h : s.sender.cursor.toNat ≤ 32) (f : Fault) : onAck s ≠ .fault f := by
  by_cases hlt : s.sender.cursor.toNat < 32
  · rw [onAck_next_iff.mpr (.inl ⟨hlt, rfl⟩)]
    nofun
  · rw [onAck_next_iff.mpr (.inr ⟨by omega, rfl⟩)]
    nofun

theorem onBit_of_run_ge (b : Bool) (hrun : s.receiver.fsm = .run)
    (h : 32 ≤ s.receiver.cursor.toNat) :
    onBit b s = .fault .illegalCursor := by
  rw [onBit, if_pos hrun, acceptBit_of_ge h]

theorem onBit_ne_fault (b : Bool) (h : s.receiver.fsm = .run → s.receiver.cursor.toNat < 32)
    (f : Fault) : onBit b s ≠ .fault f := by
  by_cases hrun : s.receiver.fsm = .run
  · rw [onBit_next_iff.mpr (.inl ⟨hrun, h hrun, rfl⟩)]
    nofun
  · rw [onBit_next_iff.mpr (.inr ⟨hrun, rfl⟩)]
    nofun

theorem Effect.exec_ne_fault (h : Effect s i t) (f : Fault) : exec i s ≠ .fault f := by
  rw [h.exec_eq]
  nofun

theorem exec_sStart_ne_fault (v : Word) (p : Peer) (f : Fault) :
    exec (.sStart v p) s ≠ .fault f := by
  by_cases hidle : s.sender.fsm = .idle
  · exact (Effect.sStart v p hidle).exec_ne_fault f
  · exact (Effect.sStartErr v p hidle).exec_ne_fault f

theorem exec_rStart_ne_fault (p : Peer) (f : Fault) : exec (.rStart p) s ≠ .fault f := by
  by_cases hidle : s.receiver.fsm = .idle
  · exact (Effect.rStart p hidle).exec_ne_fault f
  · exact (Effect.rStartErr p hidle).exec_ne_fault f

theorem exec_sEmit_ne_fault (f : Fault) : exec .sEmit s ≠ .fault f := by
  by_cases hpre : s.sender.fsm = .run ∧ s.sender.cursor.toNat ≤ 31
  · obtain ⟨hrun, hle⟩ := hpre
    exact (Effect.sEmit hrun (by omega)).exec_ne_fault f
  · rw [show exec .sEmit s = execSEmit s from rfl, execSEmit, if_neg hpre]
    nofun

theorem deliver_ne_fault (d : Side) (k : Kind) (f : Fault) : deliver d k s ≠ .fault f := by
  unfold deliver
  split <;> nofun

theorem drop_ne_fault (d : Side) (k : Kind) (f : Fault) : drop d k s ≠ .fault f := by
  unfold drop
  split
  · split <;> nofun
  · nofun

/-- A cursor that meets R33 picks a bit wherever a handler asks for one. -/
theorem EngineInv.handlerOf_ne_fault (hs : EngineInv s) (d : Side) (k : Kind) (f : Fault) :
    handlerOf d k s ≠ .fault f := by
  have hbit (hrun : s.receiver.fsm = .run) : s.receiver.cursor.toNat < 32 :=
    Nat.lt_succ_of_le (hs.receiver.run_cursor hrun)
  cases d with
  | sender =>
    cases k with
    | bitZero | bitOne => nofun
    | ack => exact onAck_ne_fault hs.sender.cursor_le f
  | receiver =>
    cases k with
    | bitZero => exact onBit_ne_fault false hbit f
    | bitOne => exact onBit_ne_fault true hbit f
    | ack => nofun

theorem EngineInv.silent_setPend (hs : EngineInv s) (d : Side) (k : Kind) (b : Bool) :
    EngineInv (s.silent.setPend d k b) := by
  cases d <;> exact ⟨hs.sender.of_kept rfl rfl, hs.receiver.of_kept rfl rfl rfl⟩

theorem EngineInv.dispOp_ne_fault (hs : EngineInv s) (d : Side) (k : Kind) (f : Fault) :
    exec (dispOp d k) s ≠ .fault f := by
  rw [exec_dispOp]
  exact fun h => (hs.silent_setPend d k false).handlerOf_ne_fault d k f (dispatch_eq_fault h)

theorem EngineInv.exec_ne_fault (hs : EngineInv s) (i : Instr) (f : Fault) :
    exec i s ≠ .fault f := by
  cases i with
  | sDispBit0 => exact hs.dispOp_ne_fault .sender .bitZero f
  | sDispBit1 => exact hs.dispOp_ne_fault .sender .bitOne f
  | sDispAck => exact hs.dispOp_ne_fault .sender .ack f
  | rDispBit0 => exact hs.dispOp_ne_fault .receiver .bitZero f
  | rDispBit1 => exact hs.dispOp_ne_fault .receiver .bitOne f
  | rDispAck => exact hs.dispOp_ne_fault .receiver .ack f
  | sStart v p => exact exec_sStart_ne_fault v p f
  | rStart p => exact exec_rStart_ne_fault p f
  | sEmit => exact exec_sEmit_ne_fault f
  | tDeliverBit0 d | tDeliverBit1 d | tDeliverAck d => exact deliver_ne_fault d _ f
  | tDropBit0 d | tDropBit1 d | tDropAck d => exact drop_ne_fault d _ f
  | sReset | rReset | sLatchBit0 | sLatchBit1 | sLatchAck | rLatchBit0 | rLatchBit1 | rLatchAck =>
    nofun

/-- Settles O24: the handlers of an ACK and of a bit fault on a cursor that picks no bit, and R33 keeps
every cursor they use in range. -/
theorem illegalCursorFaults : Obligations.IllegalCursorFaults := by
  refine ⟨fun s hstarted hpend hgt => ?_, fun s b hrun hge hpend => ?_,
    fun i s f hs => hs.exec_ne_fault i f⟩
  · have he : s.dispEnabled .sender .ack = true := (dispEnabled_iff _ _ _).mpr ⟨hstarted, hpend⟩
    exact (dispatch_of_enabled he).trans (onAck_of_gt hgt)
  · have he : s.dispEnabled .receiver (bitKind b) = true :=
      (dispEnabled_iff _ _ _).mpr ⟨by simp [hrun], hpend⟩
    have hdisp := (dispatch_of_enabled (f := onBit b) he).trans (onBit_of_run_ge b hrun hge)
    cases b <;> exact hdisp

/-! ### What a transition presents on `ntf_out` (10_state.md R37 to R39) -/

/-- The operations in which the sender sends a bit: an accepted S.START, S.DISP.ACK below 32, and S.EMIT
(40_sender.md R102 to R104). -/
def SendsBit (s : State) (i : Instr) : Prop :=
  (i.isStartOf .sender = true ∧ s.sender.fsm = .idle) ∨
    (i = .sDispAck ∧ s.sender.cursor.toNat < 32) ∨ i = .sEmit

/-- The operations in which the receiver takes a bit (41_receiver.md R133, R134). -/
def TakesBit (s : State) (i : Instr) : Prop := i.isBitDispatch = true ∧ s.receiver.fsm = .run

/-- The sender's port is valid exactly for the operations in which it sends a bit. -/
theorem Effect.ntfOutValid_sender_iff (h : Effect s i t) :
    t.ntfOutValid .sender = true ↔ SendsBit s i := by
  cases h with
  | sStart _ _ hfsm | sStartErr _ _ hfsm => simp [SendsBit, State.ntfOutValid, hfsm]
  | sEmit => simp [SendsBit, State.ntfOutValid]
  | ackEmits _ _ hcursor | ackAbsorbed _ _ hcursor =>
    simp [SendsBit, State.ntfOutValid, hcursor]
  | sReset => simp [SendsBit, State.ntfOutValid, Sender.reset]
  | _ => simp [SendsBit, State.ntfOutValid, State.openReceiver]

/-- The receiver's port is valid exactly for the operations in which it takes a bit. -/
theorem Effect.ntfOutValid_receiver_iff (h : Effect s i t) :
    t.ntfOutValid .receiver = true ↔ TakesBit s i := by
  cases h with
  | bitTaken _ hfsm | overrun _ hfsm => simp [TakesBit, State.ntfOutValid, hfsm]
  | rReset => simp [TakesBit, State.ntfOutValid, Receiver.reset]
  | _ => simp [TakesBit, State.ntfOutValid, State.openReceiver, State.openSender]

/-- Only the receiver's operations take a bit, only the sender's send one. -/
theorem TakesBit.not_sendsBit (h : TakesBit s i) : ¬ SendsBit s i := by
  obtain ⟨hdisp, -⟩ := h
  rintro (⟨hstart, -⟩ | ⟨rfl, -⟩ | rfl)
  · cases i <;> simp [Instr.isBitDispatch, Instr.isStartOf] at hdisp hstart
  · cases hdisp
  · cases hdisp

/-- The sender emits bit kinds only (30_encoding.md R81). -/
theorem Effect.sender_emits_bit (h : Effect s i t) {n : Notification}
    (hn : t.sender.ntfOut = some n) : n.kind ≠ .ack := by
  cases h with
  | sStart | sEmit | ackEmits =>
    cases hn
    exact bitKind_ne_ack _
  | _ => cases hn

/-- The receiver emits ACKs only. -/
theorem Effect.receiver_emits_ack (h : Effect s i t) {n : Notification}
    (hn : t.receiver.ntfOut = some n) : n.kind = .ack := by
  cases h with
  | bitTaken =>
    cases hn
    rfl
  | _ => cases hn

/-- Settles O35: each port is valid exactly for its engine's operations that send or take a bit, and no
operation is both. -/
theorem atMostOneEmission : Obligations.AtMostOneEmission := by
  intro i s t hexec
  have h : Effect s i t := exec_effect hexec
  refine ⟨fun ⟨hsends, htakes⟩ => ?_, h.ntfOutValid_sender_iff, h.ntfOutValid_receiver_iff,
    fun _ => h.sender_emits_bit, fun _ => h.receiver_emits_ack⟩
  exact (h.ntfOutValid_receiver_iff.mp htakes).not_sendsBit (h.ntfOutValid_sender_iff.mp hsends)

/-! ### The sender's cursor -/

/-- `sendBit` at the bit the cursor picks advances the cursor and presents that bit. -/
theorem State.sendBit_cursor_sentBit (hlt : s.sender.cursor.toNat < 32) :
    (s.sendBit (31 - s.sender.cursor.toNat)).sender.cursor.toNat = s.sender.cursor.toNat + 1 ∧
      sentBit s.sender.cursor (s.sendBit (31 - s.sender.cursor.toNat)) :=
  ⟨cursor_succ hlt, rfl⟩

/-- Settles O33: the three operations that send a bit do so at the old cursor, which in IDLE is 0 by R33;
every other but S.RESET leaves cursor and port. -/
theorem senderCursorCountsBitsSent : Obligations.SenderCursorCountsBitsSent := by
  intro i s t hs hexec hreset
  cases exec_effect hexec with
  | sReset => cases hreset
  | sStart v p hidle =>
    have hzero : s.sender.cursor = 0#6 := BitVec.eq_of_toNat_eq (hs.sender.idle_cursor hidle)
    have hlt : (s.openSender v p).sender.cursor.toNat < 32 :=
      show (0#6 : Cursor).toNat < 32 by decide
    obtain ⟨hcursor, hsent⟩ := State.sendBit_cursor_sentBit hlt
    rw [hzero]
    exact .inr ⟨hcursor, hsent, .inr (.inr ⟨rfl, hidle⟩)⟩
  | sEmit _ hlt =>
    obtain ⟨hcursor, hsent⟩ := State.sendBit_cursor_sentBit (s := s.silent) hlt
    exact .inr ⟨hcursor, hsent, .inl rfl⟩
  | ackEmits hstarted _ hlt =>
    obtain ⟨hcursor, hsent⟩ :=
      State.sendBit_cursor_sentBit (s := s.silent.setPend .sender .ack false) hlt
    exact .inr ⟨hcursor, hsent, .inr (.inl ⟨rfl, hs.sender.run_of_lt hstarted hlt⟩)⟩
  | _ => exact .inl ⟨rfl, rfl⟩

/-! ### The frame of an operation, by its agent -/

theorem Effect.frame_of_sender (h : Effect s i t) (hi : i.agent = .engine .sender) :
    t.receiver = { s.receiver with ntfOut := none } ∧ t.wires.toSender = s.wires.toSender := by
  cases h with
  | sReset | sStart | sStartErr | sEmit | ackEmits | ackAbsorbed | sUnexpected | sLatch =>
    exact ⟨rfl, rfl⟩
  | _ => simp at hi

theorem Effect.frame_of_receiver (h : Effect s i t) (hi : i.agent = .engine .receiver) :
    t.sender = { s.sender with ntfOut := none } ∧ t.wires.toReceiver = s.wires.toReceiver := by
  cases h with
  | rReset | rStart | rStartErr | rUnexpected | bitTaken | overrun | rLatch => exact ⟨rfl, rfl⟩
  | _ => simp at hi

theorem KindFlags.get_set_true_of_get {f : KindFlags} {k' : Kind} (k : Kind) (h : f.get k' = true) :
    (f.set k true).get k' = true := by
  rw [KindFlags.get_set, h, ite_self]

theorem Effect.frame_of_transport (h : Effect s i t) (hi : i.agent = .transport) :
    t.sender = { s.sender with pend := t.sender.pend, ntfOut := none } ∧
      t.receiver = { s.receiver with pend := t.receiver.pend, ntfOut := none } ∧
      ∀ d k, (s.pend d).get k = true → (t.pend d).get k = true := by
  cases h with
  | deliverS k =>
    refine ⟨rfl, rfl, fun d k' hk => ?_⟩
    cases d with
    | sender => exact KindFlags.get_set_true_of_get k hk
    | receiver => exact hk
  | deliverR k =>
    refine ⟨rfl, rfl, fun d k' hk => ?_⟩
    cases d with
    | sender => exact hk
    | receiver => exact KindFlags.get_set_true_of_get k hk
  | dropS | dropR => exact ⟨rfl, rfl, fun d _ hk => by cases d <;> exact hk⟩
  | _ => simp at hi

/-- Settles O36: the three frames, by the agent of the operation. -/
theorem agentsTouchOnlyTheirOwn : Obligations.AgentsTouchOnlyTheirOwn := fun _ _ _ hexec =>
  have h := exec_effect hexec
  ⟨h.frame_of_sender, h.frame_of_receiver, h.frame_of_transport⟩

/-! ### A pulse pattern on `ntf_in` -/

/-- Each latch ORed with its line (10_state.md R37). -/
def KindFlags.orLines (f : KindFlags) (line : Kind → Bool) : KindFlags :=
  ⟨f.bitZero || line .bitZero, f.bitOne || line .bitOne, f.ack || line .ack⟩

theorem KindFlags.set_true_eq_orLines (f : KindFlags) (k : Kind) :
    f.set k true = f.orLines fun k' => k' == k := by
  cases k <;> simp [KindFlags.set, KindFlags.orLines]

theorem KindFlags.orLines_orLines (f : KindFlags) (p q : Kind → Bool) :
    (f.orLines p).orLines q = f.orLines fun k => p k || q k := by
  simp [KindFlags.orLines, Bool.or_assoc]

/-- The transition that ORs an engine's latches with its lines and presents nothing. -/
def State.pulsed (s : State) (d : Side) (line : Kind → Bool) : State :=
  match d with
  | .sender =>
    { s.silent with sender := { s.silent.sender with pend := s.sender.pend.orLines line } }
  | .receiver =>
    { s.silent with receiver := { s.silent.receiver with pend := s.receiver.pend.orLines line } }

theorem exec_latchOp_eq_pulsed (d : Side) (k : Kind) (s : State) :
    exec (latchOp d k) s = .next (s.pulsed d fun k' => k' == k) := by
  rw [exec_latchOp]
  cases d <;> simp [State.setPend, State.pulsed, KindFlags.set_true_eq_orLines]

theorem State.pulsed_pulsed (s : State) (d : Side) (p q : Kind → Bool) :
    (s.pulsed d p).pulsed d q = s.pulsed d fun k => p k || q k := by
  cases d <;> simp [State.pulsed, KindFlags.orLines_orLines, State.silent]

/-- One LATCH or more set the latches of their kinds. -/
theorem execAll_latchOps (d : Side) (k : Kind) (ks : List Kind) (s : State) :
    execAll ((k :: ks).map (latchOp d)) s = .next (s.pulsed d fun k' => (k :: ks).contains k') := by
  induction ks generalizing k s with
  | nil =>
    rw [List.map_cons, execAll_cons_next (exec_latchOp_eq_pulsed d k s), List.map_nil, execAll_nil]
    simp only [List.contains_cons, List.contains_nil, Bool.or_false]
  | cons k' ks ih =>
    rw [List.map_cons, execAll_cons_next (exec_latchOp_eq_pulsed d k s), ih, State.pulsed_pulsed]
    simp only [List.contains_cons]

/-- The kinds whose lines are pulsed (10_state.md R37, R38). -/
def pulsedKinds (ntfIn : BitVec 3) : List Kind :=
  [Kind.bitZero, .bitOne, .ack].filter fun k => ntfIn.getLsbD k.code.toNat

theorem pulsedKinds_contains (ntfIn : BitVec 3) (k : Kind) :
    (pulsedKinds ntfIn).contains k = ntfIn.getLsbD k.code.toNat := by
  cases k <;> simp [pulsedKinds]

theorem pulsedKinds_ne_nil {ntfIn : BitVec 3} : ntfIn ≠ 0#3 → pulsedKinds ntfIn ≠ [] := by
  revert ntfIn
  decide

theorem execAll_pulses (d : Side) (s : State) {ntfIn : BitVec 3} (h : ntfIn ≠ 0#3) :
    execAll (pulses d ntfIn) s = .next (s.pulsed d fun k => ntfIn.getLsbD k.code.toNat) := by
  obtain ⟨k, ks, hks⟩ := List.exists_cons_of_ne_nil (pulsedKinds_ne_nil h)
  have hpulses : pulses d ntfIn = (k :: ks).map (latchOp d) := congrArg (List.map (latchOp d)) hks
  rw [hpulses, execAll_latchOps, ← hks]
  simp only [pulsedKinds_contains]

/-- Settles O40: a run of LATCHes ORs the latches with the set of their kinds, in which the order of the
LATCHes does not show. -/
theorem pulsesSetTheLatches : Obligations.PulsesSetTheLatches := by
  refine ⟨fun s d k k' => ?_, fun s => ⟨rfl, rfl⟩, fun s ntfIn h =>
    ⟨execAll_pulses .sender s h, execAll_pulses .receiver s h⟩⟩
  have hpair (k k' : Kind) := execAll_latchOps d k [k'] s
  simp only [List.map_cons, List.map_nil] at hpair
  rw [hpair k k', hpair k' k]
  simp [Bool.or_comm]

/-! ### The fields of STATUS (10_state.md R35) -/

/-- A field of a word, bit by bit. -/
theorem extractLsb'_eq_of_getLsbD {v : Word} {start len : Nat} {w : BitVec len}
    (h : ∀ j < len, v.getLsbD (start + j) = w.getLsbD j) : v.extractLsb' start len = w :=
  BitVec.eq_of_getLsbD_eq fun j hj => by
    rw [BitVec.getLsbD_extractLsb', h j hj]
    simp [hj]

/-- The overrun bit of STATUS, hardwired 0 at the sender. -/
def State.overrunBit (s : State) : Side → Bool
  | .sender => false
  | .receiver => s.receiver.errOverrun

theorem State.status_eq (s : State) (d : Side) :
    s.status d = statusWord (decide (d = .receiver)) (s.overrunBit d) (s.errorFlag (.start d))
      (s.errorFlag (.unexp d)) (s.pend d) (s.cursor d) (s.fsm d) := by
  cases d <;> rfl

section

variable (role overrun start unexp : Bool) (p : KindFlags) (c : Cursor) (f : Fsm)

theorem statusWord_state :
    (statusWord role overrun start unexp p c f).extractLsb' 0 2 = f.code :=
  extractLsb'_eq_of_getLsbD fun j hj => by
    rw [statusWord_getLsbD, if_pos (by omega), Nat.zero_add]

theorem statusWord_cursor :
    (statusWord role overrun start unexp p c f).extractLsb' 4 6 = c :=
  extractLsb'_eq_of_getLsbD fun j hj => by
    rw [statusWord_getLsbD, if_neg (by omega), if_neg (by omega), if_neg (by omega),
      if_pos (by omega), Nat.add_sub_cancel_left]

theorem statusWord_reserved_low :
    (statusWord role overrun start unexp p c f).extractLsb' 10 2 = 0#2 :=
  extractLsb'_eq_of_getLsbD fun j hj => by
    interval_cases j <;> exact statusWord_getLsbD ..

theorem statusWord_reserved_high :
    (statusWord role overrun start unexp p c f).extractLsb' 19 12 = 0#12 :=
  extractLsb'_eq_of_getLsbD fun j hj => by
    interval_cases j <;> exact statusWord_getLsbD ..

theorem statusWord_pend (k : Kind) :
    (statusWord role overrun start unexp p c f).getLsbD (12 + k.code.toNat) = p.get k := by
  cases k <;> exact statusWord_getLsbD ..

end

/-- Settles O49: field by field of `statusWord`, for both engines at once. -/
theorem statusFields : Obligations.StatusFields := by
  intro s
  refine ⟨fun d => ?_, ?_, ?_, ?_, ?_, by decide, by decide⟩
  · rw [State.status_eq]
    exact ⟨statusWord_state .., statusWord_getLsbD .., statusWord_getLsbD .., statusWord_cursor ..,
      statusWord_reserved_low .., statusWord_pend _ _ _ _ _ _ _, statusWord_getLsbD ..,
      statusWord_getLsbD .., statusWord_getLsbD .., statusWord_reserved_high ..⟩
  all_goals
    rw [State.status_eq]
    exact statusWord_getLsbD ..

end Sys2Proof.Machine

/-! ### One round of the link in lock step (42_link.md R172)

Each operation of `ROUND` keeps the lock step: a delivery moves the one outstanding notification
from the wire to the latch, and a dispatch answers it with the one that follows. -/

namespace Sys2Proof.Machine

variable {s t : State} {b : Bool}

/-- The notification taken off its wire and latched: what T.DELIVER does (42_link.md R165). -/
abbrev State.delivered (s : State) (d : Side) (k : Kind) : State :=
  (s.silent.setWire d k false).setPend d k true

/-- The latch cleared: what a DISP does before its handler (42_link.md R160). -/
abbrev State.observed (s : State) (d : Side) (k : Kind) : State := s.silent.setPend d k false

/-- Operations run one list after the other. -/
theorem execAll_append_next {is js : List Instr} (h : execAll is s = .next t) :
    execAll (is ++ js) s = execAll js t := by
  induction is generalizing s with
  | nil =>
    cases h
    rfl
  | cons i is ih =>
    obtain ⟨u, hi, hu⟩ := execAll_cons_eq_next.mp h
    exact (execAll_cons_next hi).trans (ih hu)

/-- A cursor's advance takes no started engine to IDLE. -/
theorem fsmAfter_ne_idle {f : Fsm} (c : Cursor) (h : f ≠ .idle) : fsmAfter f c ≠ .idle := by
  unfold fsmAfter
  split
  · nofun
  · exact h

theorem State.nb_pos_of_outstanding (h : s.outstandingAtReceiver (bitKind b) = true) :
    1 ≤ s.nb := by
  unfold State.nb
  rcases Bool.or_eq_true_iff.mp h with hwire | hpend
  · have := KindFlags.bits_pos hwire
    omega
  · have := KindFlags.bits_pos hpend
    omega

theorem State.not_outstanding_of_nb (h : s.nb = 0) :
    s.outstandingAtReceiver (bitKind b) = false := by
  by_contra hout
  have := State.nb_pos_of_outstanding (Bool.eq_true_of_not_eq_false hout)
  omega

/-- While a bit is outstanding, it is the only notification, it is the one the receiver waits for,
and the sender is one ahead. -/
theorem LockStep.of_bit_outstanding (h : LockStep s)
    (hb : s.outstandingAtReceiver (bitKind b) = true) :
    s.sender.fsm ≠ .idle ∧ s.sender.cursor.toNat = s.receiver.cursor.toNat + 1 ∧
      s.nb = 1 ∧ s.na = 0 ∧ b = s.sender.payload.getLsbD (31 - s.receiver.cursor.toNat) := by
  have hnb : 1 ≤ s.nb := State.nb_pos_of_outstanding hb
  have hstarted : s.sender.fsm ≠ .idle := fun hidle => by
    obtain ⟨-, -, hzero, -⟩ := h.idle hidle
    omega
  obtain ⟨hcursor, hone, hna, hbit⟩ | ⟨-, -, hzero, -⟩ | ⟨-, -, hzero, -⟩ := h.started hstarted
  · refine ⟨hstarted, hcursor, ?_, hna, hbit b hb⟩
    obtain hone | ⟨-, hzero⟩ := hone <;> omega
  all_goals omega

/-- While an ACK is outstanding, it is the only notification and the cursors are equal. -/
theorem LockStep.of_ack_outstanding (h : LockStep s) (ha : 1 ≤ s.na) :
    s.sender.fsm ≠ .idle ∧ s.sender.cursor.toNat = s.receiver.cursor.toNat ∧
      s.sender.cursor.toNat ≤ 32 ∧ s.nb = 0 ∧ s.na = 1 := by
  have hstarted : s.sender.fsm ≠ .idle := fun hidle => by
    obtain ⟨-, -, -, hzero⟩ := h.idle hidle
    omega
  obtain ⟨-, -, hzero, -⟩ | ⟨hcursor, hlt, hnb, hone⟩ | ⟨hcursor, hlast, hnb, hone⟩ :=
    h.started hstarted
  · omega
  · refine ⟨hstarted, hcursor, hlt.le, hnb, ?_⟩
    obtain hone | ⟨-, hzero⟩ := hone <;> omega
  · exact ⟨hstarted, hcursor, hlast.le, hnb, by omega⟩

/-! The notifications outstanding after each operation of a round. -/

/-- A delivered bit is still outstanding, now as a latch; two of one kind coalesce
(10_state.md R31). -/
theorem State.nb_deliverR (hwire : s.wires.toReceiver.get (bitKind b) = true) :
    (s.delivered .receiver (bitKind b)).nb + (s.receiver.pend.get (bitKind b)).toNat = s.nb := by
  have hw := KindFlags.bits_set s.wires.toReceiver b false
  have hp := KindFlags.bits_set s.receiver.pend b true
  simp only [hwire, Bool.toNat_true, Bool.toNat_false] at hw hp
  simp only [State.nb, State.setPendR_wires, State.setWireR_wires_toReceiver, State.silent_wires,
    State.setPendR_receiver_pend, State.setWireR_receiver, State.silent_receiver_pend]
  omega

theorem State.outstanding_deliverR (k k' : Kind) (hwire : s.wires.toReceiver.get k = true) :
    (s.delivered .receiver k).outstandingAtReceiver k' = s.outstandingAtReceiver k' := by
  by_cases e : k' = k
  · simp [State.outstandingAtReceiver, e, hwire]
  · simp [State.outstandingAtReceiver, e]

theorem State.nb_takeBit (n : Nat) (hpend : s.receiver.pend.get (bitKind b) = true) :
    ((s.observed .receiver (bitKind b)).takeBit n b).nb + 1 = s.nb := by
  have hp := KindFlags.bits_set s.receiver.pend b false
  simp only [hpend, Bool.toNat_true, Bool.toNat_false] at hp
  simp only [State.nb, State.takeBit_wires_toReceiver, State.setPendR_wires, State.silent_wires,
    State.takeBit_receiver_pend, State.setPendR_receiver_pend, State.silent_receiver_pend]
  omega

theorem State.nb_sendBit (n : Nat) (hnb : s.nb = 0) : (s.sendBit n).nb = 1 := by
  have hout := State.not_outstanding_of_nb (b := s.sender.payload.getLsbD n) hnb
  have hw := KindFlags.bits_set s.wires.toReceiver (s.sender.payload.getLsbD n) true
  obtain ⟨hwire, -⟩ := Bool.or_eq_false_iff.mp hout
  simp only [hwire, Bool.toNat_true, Bool.toNat_false] at hw
  simp only [State.nb] at hnb
  simp only [State.nb, State.sendBit_wires_toReceiver, State.sendBit_receiver]
  omega

/-- Sending a bit makes that bit outstanding and no other. -/
theorem State.outstanding_sendBit (n : Nat) (c : Bool) :
    (s.sendBit n).outstandingAtReceiver (bitKind c) =
      (decide (c = s.sender.payload.getLsbD n) || s.outstandingAtReceiver (bitKind c)) := by
  by_cases e : c = s.sender.payload.getLsbD n <;> simp [State.outstandingAtReceiver, e]

theorem State.na_observeAck (hpend : s.sender.pend.ack = true) :
    (s.observed .sender .ack).na + 1 = s.na := by
  simp [State.na, hpend]

theorem State.na_takeBit (n : Nat) (hna : s.na = 0) : (s.takeBit n b).na = 1 := by
  unfold State.na at hna
  show 1 + s.sender.pend.ack.toNat = 1
  omega

/-! The lock step after each operation of a round. -/

/-- T.DELIVER of a bit moves the outstanding notification. -/
theorem LockStep.deliverR_bit (h : LockStep s)
    (hwire : s.wires.toReceiver.get (bitKind b) = true) :
    LockStep (s.delivered .receiver (bitKind b)) := by
  have hout : s.outstandingAtReceiver (bitKind b) = true := by
    simp [State.outstandingAtReceiver, hwire]
  obtain ⟨hstarted, hcursor, hnb, hna, -⟩ := h.of_bit_outstanding hout
  have hmoved := State.nb_deliverR hwire
  refine ⟨by simpa using h.no_wrong_wire, by simpa using h.no_wrong_latch, h.no_error,
    fun hidle => absurd hidle hstarted, fun _ => .inl ⟨hcursor, .inl ?_, hna, fun c hc => ?_⟩,
    h.received, h.unreceived⟩
  · have := State.nb_pos_of_outstanding ((State.outstanding_deliverR _ _ hwire).trans hout)
    omega
  · rw [State.outstanding_deliverR _ _ hwire] at hc
    obtain ⟨-, -, -, -, hc⟩ := h.of_bit_outstanding hc
    exact hc

/-- R.DISP of a bit writes it where it belongs; the ACK is what is outstanding now. -/
theorem LockStep.bitTaken (h : LockStep s) (hlt : s.receiver.cursor.toNat < 32)
    (hpend : s.receiver.pend.get (bitKind b) = true) :
    LockStep ((s.observed .receiver (bitKind b)).takeBit (31 - s.receiver.cursor.toNat) b) := by
  obtain ⟨hstarted, hcursor, hnb, hna, hbit⟩ :=
    h.of_bit_outstanding (b := b) (by simp [State.outstandingAtReceiver, hpend])
  have htaken := State.nb_takeBit (31 - s.receiver.cursor.toNat) hpend
  have hack := State.na_takeBit (s := s.observed .receiver (bitKind b)) (b := b)
    (31 - s.receiver.cursor.toNat) hna
  have hadvanced : ((s.observed .receiver (bitKind b)).takeBit (31 - s.receiver.cursor.toNat)
      b).receiver.cursor.toNat = s.receiver.cursor.toNat + 1 := cursor_succ hlt
  have hequal := hcursor.trans hadvanced.symm
  refine ⟨by simpa using h.no_wrong_wire, by simpa using h.no_wrong_latch, h.no_error,
    fun hidle => absurd hidle hstarted, fun _ => .inr ?_, fun j hj hge => ?_, fun j hj hle => ?_⟩
  · rcases Nat.lt_or_ge s.sender.cursor.toNat 32 with hmore | hlast
    · exact .inl ⟨hequal, hmore, by omega, .inl hack⟩
    · exact .inr ⟨hequal, (by omega : s.sender.cursor.toNat = 32), by omega, hack.le⟩
  · rw [hadvanced] at hge
    rw [State.takeBit_receiver_acc, getLsbD_setBit _ (by omega)]
    split
    · next e => exact e ▸ hbit
    · exact h.received j hj (by omega)
  · rw [hadvanced] at hle
    rw [State.takeBit_receiver_acc, getLsbD_setBit _ (by omega), if_neg (by omega)]
    exact h.unreceived j hj (by omega)

/-- T.DELIVER of an ACK moves the outstanding notification. -/
theorem LockStep.deliverS_ack (h : LockStep s) (hwire : s.wires.toSender.ack = true) :
    LockStep (s.delivered .sender .ack) := by
  obtain ⟨hstarted, hcursor, hle, hnb, -⟩ := h.of_ack_outstanding (by simp [State.na, hwire])
  have hkept : (s.delivered .sender .ack).na = 1 := by simp [State.na]
  refine ⟨h.no_wrong_wire, h.no_wrong_latch, h.no_error, fun hidle => absurd hidle hstarted,
    fun _ => .inr ?_, h.received, h.unreceived⟩
  rcases Nat.lt_or_ge s.sender.cursor.toNat 32 with hmore | hlast
  · exact .inl ⟨hcursor, hmore, hnb, .inl hkept⟩
  · exact .inr ⟨hcursor, hle.antisymm hlast, hnb, hkept.le⟩

/-- S.DISP.ACK below 32 answers the ACK with the bit the receiver waits for. -/
theorem LockStep.ackEmits (h : LockStep s) (hpend : s.sender.pend.ack = true)
    (hlt : s.sender.cursor.toNat < 32) :
    LockStep ((s.observed .sender .ack).sendBit (31 - s.sender.cursor.toNat)) := by
  obtain ⟨hstarted, hcursor, -, hnb, hna⟩ := h.of_ack_outstanding (by simp [State.na, hpend])
  have hahead : (s.sender.cursor + 1#6).toNat = s.receiver.cursor.toNat + 1 := by
    rw [cursor_succ hlt, hcursor]
  have hobserved := State.na_observeAck hpend
  have hsent := State.nb_sendBit (s := s.observed .sender .ack)
    (31 - s.sender.cursor.toNat) hnb
  refine ⟨by simpa using h.no_wrong_wire, h.no_wrong_latch, h.no_error,
    fun hidle => absurd hidle (fsmAfter_ne_idle _ hstarted),
    fun _ => .inl ⟨hahead, .inl hsent, (by omega : (s.observed .sender .ack).na = 0),
      fun c hc => ?_⟩, h.received, h.unreceived⟩
  have hnone := State.not_outstanding_of_nb (s := s.observed .sender .ack) (b := c) hnb
  rw [State.outstanding_sendBit, hnone, Bool.or_false, decide_eq_true_iff, hcursor] at hc
  exact hc

/-- S.DISP.ACK at 32 leaves nothing outstanding. -/
theorem LockStep.ackAbsorbed (h : LockStep s) (hpend : s.sender.pend.ack = true)
    (hlast : s.sender.cursor.toNat = 32) :
    LockStep (s.observed .sender .ack) := by
  obtain ⟨hstarted, hcursor, -, hnb, hna⟩ := h.of_ack_outstanding (by simp [State.na, hpend])
  have hzero := State.na_observeAck hpend
  exact ⟨h.no_wrong_wire, h.no_wrong_latch, h.no_error, fun hidle => absurd hidle hstarted,
    fun _ => .inr (.inr ⟨hcursor, hlast, hnb, by omega⟩), h.received, h.unreceived⟩

/-! The two halves of a round. -/

/-- The outstanding bit delivered and dispatched: the receiver writes it where its cursor picks and
answers with an ACK. -/
theorem LockStep.bit_accepted (h : LockStep s) (hrun : s.receiver.fsm = .run)
    (hlt : s.receiver.cursor.toNat < 32) (hwire : s.wires.toReceiver.get (bitKind b) = true) :
    ∃ t, execAll [Instr.tDeliver .receiver (bitKind b), Instr.rDisp (bitKind b)] s = .next t ∧
      LockStep t ∧ t.wires.toSender.ack = true ∧ t.sender.payload = s.sender.payload ∧
      t.receiver.cursor.toNat = s.receiver.cursor.toNat + 1 ∧
      t.receiver.acc.getLsbD (31 - s.receiver.cursor.toNat) = b := by
  have hdeliver := Effect.deliverR (bitKind b) hwire
  have hdisp := Effect.bitTaken (s := s.delivered .receiver (bitKind b))
    b hrun (KindFlags.get_set_same _ _ _) hlt
  refine ⟨_, (execAll_cons_next hdeliver.exec_eq).trans (execAll_cons_next hdisp.exec_eq),
    (h.deliverR_bit hwire).bitTaken hlt (KindFlags.get_set_same _ _ _), rfl, rfl,
    cursor_succ hlt, ?_⟩
  exact (getLsbD_setBit _ (by omega) _ _).trans (if_pos rfl)

/-- The outstanding ACK delivered and dispatched: the sender answers with the next bit, if it has
one. -/
theorem LockStep.ack_answered (h : LockStep s) (hwire : s.wires.toSender.ack = true) :
    ∃ t, execAll [.tDeliverAck .sender, .sDispAck] s = .next t ∧
      LockStep t ∧ t.receiver.cursor = s.receiver.cursor ∧ t.receiver.acc = s.receiver.acc ∧
      t.sender.payload = s.sender.payload ∧
      t.sender.cursor.toNat = min 32 (s.receiver.cursor.toNat + 1) ∧
      (s.receiver.cursor.toNat < 32 → t.wires.toReceiver.get
        (bitKind (s.sender.payload.getLsbD (31 - s.receiver.cursor.toNat))) = true) := by
  obtain ⟨hstarted, hcursor, hle, -⟩ := h.of_ack_outstanding (by simp [State.na, hwire])
  have hdeliver := Effect.deliverS .ack hwire
  have hlock := h.deliverS_ack hwire
  rcases Nat.lt_or_ge s.sender.cursor.toNat 32 with hlt | hge
  · have hdisp := Effect.ackEmits (s := s.delivered .sender .ack) hstarted rfl hlt
    refine ⟨_, (execAll_cons_next hdeliver.exec_eq).trans (execAll_cons_next hdisp.exec_eq),
      hlock.ackEmits rfl hlt, rfl, rfl, rfl, (cursor_succ hlt).trans (by omega), fun _ => ?_⟩
    rw [← hcursor]
    exact KindFlags.get_set_same _ _ _
  · have hdisp := Effect.ackAbsorbed (s := s.delivered .sender .ack) hstarted rfl (hle.antisymm hge)
    exact ⟨_, (execAll_cons_next hdeliver.exec_eq).trans (execAll_cons_next hdisp.exec_eq),
      hlock.ackAbsorbed rfl (hle.antisymm hge), rfl, rfl, rfl,
      (by omega : s.sender.cursor.toNat = min 32 (s.receiver.cursor.toNat + 1)), fun _ => by omega⟩

/-- Settles O44: the bit is accepted, and its ACK is answered with the next bit. -/
theorem roundCarriesOneBit : Obligations.RoundCarriesOneBit := by
  intro s hs h hrun r b hwire
  have hlt : r < 32 := Nat.lt_succ_of_le (hs.receiver.run_cursor hrun)
  obtain ⟨t, hfirst, ht, hack, hpayload, hcursor, hacc⟩ := h.bit_accepted hrun hlt hwire
  obtain ⟨u, hsecond, hu, hucursor, huacc, hupayload, hsent, hnext⟩ := ht.ack_answered hack
  rw [hcursor, hpayload] at hnext
  rw [hcursor] at hsent
  exact ⟨u, (execAll_append_next hfirst).trans hsecond, hu, by rw [hucursor, hcursor],
    by rw [huacc, hacc], hupayload.trans hpayload, hsent, fun hr => hnext (by omega)⟩

end Sys2Proof.Machine

/-! ### What the encoder writes decodes

The converse of `eq_encode_append_of_decode`: every operation's words lead the decoder back to it. -/

namespace Sys2Proof

variable {peerW : Nat} {rest : List Nat} {i : Instr}

/-- The decoder reads a 6-bit word as the event word it is (30_encoding.md R82). -/
theorem decode_eventWord_cons (ev : EventWord) (ws : List Nat) :
    decode peerW (ev.toNat :: ws) = decodeEvent peerW ev ws := by
  have hlt : ev.toNat < 64 := ev.isLt
  rw [decode, if_pos hlt, BitVec.ofNat_toNat, BitVec.setWidth_eq]

/-! The two words that operands follow (R87, R88). -/

theorem decodeEvent_sStart (ws : List Nat) : decodeEvent peerW 0x08#6 ws = takeSStart peerW ws := rfl

theorem decodeEvent_rStart (ws : List Nat) : decodeEvent peerW 0x18#6 ws = takeRStart peerW ws := rfl

theorem takePayload_toNat_cons (v : Word) : takePayload (v.toNat :: rest) = .ok (v, rest) := by
  rw [takePayload, if_pos v.isLt, BitVec.ofNat_toNat, BitVec.setWidth_eq]

theorem takePeer_cons {h : Peer} (hfit : peerFits peerW h = true) :
    takePeer peerW (h :: rest) = .ok (h, rest) := if_pos hfit

theorem takeSStart_cons_cons (v : Word) {h : Peer} (hfit : peerFits peerW h = true) :
    takeSStart peerW (v.toNat :: h :: rest) = .ok (.sStart v h, rest) := by
  simp only [takeSStart, takePayload_toNat_cons, takePeer_cons hfit]

theorem takeRStart_cons {h : Peer} (hfit : peerFits peerW h = true) :
    takeRStart peerW (h :: rest) = .ok (.rStart h, rest) := by
  simp only [takeRStart, takePeer_cons hfit]

/-- The fields of an operation's event word pick the branch of the decoder that reads its operands. Only
the two STARTs have any; every other word names its operation whatever follows it (R87, R88). -/
theorem decodeEvent_eventWord (rest : List Nat) (hfit : i.operandsFit peerW = true) :
    decodeEvent peerW (eventWord i) (operandWords i ++ rest) = .ok (i, rest) := by
  cases i with
  | sStart v h => exact (decodeEvent_sStart _).trans (takeSStart_cons_cons v hfit)
  | rStart h => exact (decodeEvent_rStart _).trans (takeRStart_cons hfit)
  | tDeliverBit0 d | tDeliverBit1 d | tDeliverAck d | tDropBit0 d | tDropBit1 d | tDropAck d =>
    cases d <;> rfl
  | _ => rfl

/-- An operation whose operands fit their ports is read back from its words, and what follows them in the
trace is left. -/
theorem decode_encode_append (rest : List Nat) (hfit : i.operandsFit peerW = true) :
    decode peerW (encode i ++ rest) = .ok (i, rest) :=
  (decode_eventWord_cons _ _).trans (decodeEvent_eventWord rest hfit)

/-- Settles O4: the event word picks the branch, and the operand words are read back one by one. -/
theorem decodeOfEncode : Obligations.DecodeOfEncode :=
  fun _ _ rest hfit => decode_encode_append rest hfit

/-- Settles O5: the soundness of the decoder, branch by branch (`Spelled.of_decodeEvent`). -/
theorem encodeOfDecode : Obligations.EncodeOfDecode :=
  fun _ _ _ _ e => eq_encode_append_of_decode e

/-- Settles O3: the START words are the encoder's, and the decoder computes on the other closed words. -/
theorem wordsFromTheirFields : Obligations.WordsFromTheirFields := by
  have hstart : decode 4 [0b001000, 0x80000001, 7] = .ok (.sStart 0x80000001#32 7, []) :=
    decode_encode_append (i := .sStart 0x80000001#32 7) [] (by decide)
  exact ⟨rfl, rfl, hstart, rfl, rfl, rfl, rfl, rfl, rfl, rfl⟩

end Sys2Proof

/-! ### What a step does with the front of its trace (30_encoding.md R85, R87, R88, R90) -/

namespace Sys2Proof.Machine

variable {s : State} {i : Instr} {w : Nat} {rest : List Nat}

theorem step_of_trace_nil (h : s.trace = []) : step s = .refused .noEvent := by
  rw [step, h]

theorem step_of_decode_error {e : DecodeRefusal} (hne : s.trace ≠ [])
    (h : decode s.peerW s.trace = .error e) : step s = .refused (.undecodable e) := by
  obtain ⟨w, ws, hcons⟩ := List.exists_cons_of_ne_nil hne
  rw [step, State.presented, h, hcons]

theorem step_of_decode_ok (h : decode s.peerW s.trace = .ok (i, rest)) :
    step s = runPresented i rest s := by
  obtain ⟨w, ws, hcons, -⟩ := decode_ok h
  rw [step, State.presented, h, hcons]

theorem step_of_presentable (h : decode s.peerW s.trace = .ok (i, rest))
    (hpres : i.presentable = true) : step s = exec i (s.withTrace rest) :=
  (step_of_decode_ok h).trans (if_pos hpres)

/-- S.EMIT is never presented alone (R90). -/
theorem step_of_trace_sEmit (h : s.trace = 0x0C :: rest) : step s = .refused .standaloneEmit := by
  have hdec : decode s.peerW s.trace = .ok (.sEmit, rest) := by
    rw [h]
    exact decode_encode_append (i := .sEmit) rest rfl
  exact step_of_decode_ok hdec

/-- Settles O6: a case analysis of what the trace decodes to. -/
theorem stepRunsThePresentedOperation : Obligations.StepRunsThePresentedOperation :=
  ⟨fun _ _ _ h hpres => step_of_presentable h hpres, fun _ h => step_of_trace_nil h,
    fun _ _ hne h => step_of_decode_error hne h, fun _ _ h => step_of_trace_sEmit h⟩

/-- On a transport that loses nothing a drop is refused, in flight or not (R85). -/
theorem drop_refused_of_lossless (d : Side) (k : Kind) (h : s.transportLossy = false) :
    ∃ r, drop d k s = .refused r := by
  unfold drop
  split
  · exact ⟨.dropNotLossy, if_neg (by simp [h])⟩
  · exact ⟨.notEnabled, rfl⟩

theorem step_refused_of_tDrop (d : Side) (k : Kind) (hlossy : s.transportLossy = false)
    (htrace : s.trace = encode (Instr.tDrop d k) ++ rest) : ∃ r, step s = .refused r := by
  have hdec : decode s.peerW s.trace = .ok (Instr.tDrop d k, rest) := by
    rw [htrace]
    exact decode_encode_append rest (operandsFit_tDrop d k _)
  rw [step_of_presentable hdec (presentable_tDrop d k), exec_tDrop]
  exact drop_refused_of_lossless d k hlossy

/-- Settles O20: T.DROP is `drop`, which asks for a lossy transport, and its words present it. -/
theorem tDropRefusedWhenLossless : Obligations.TDropRefusedWhenLossless := by
  intro s d k rest hlossy
  refine ⟨?_, step_refused_of_tDrop d k hlossy⟩
  rw [exec_tDrop]
  exact drop_refused_of_lossless d k hlossy

/-! ### The map of the event words (30_encoding.md R88) -/

/-- Each entry of the map is the encoder's word for its operation, alone. -/
theorem encode_of_mem_plainEventWords {p : Nat × Instr} : p ∈ plainEventWords → encode p.2 = [p.1] := by
  revert p
  decide

/-- An operation without operand words has no operand that could be too wide (R87). -/
theorem operandsFit_of_operandWords_nil (peerW : Nat) (h : operandWords i = []) :
    i.operandsFit peerW = true := by
  cases i with
  | sStart | rStart => cases h
  | _ => rfl

theorem decode_of_mem_plainEventWords {peerW : Nat} {p : Nat × Instr} (hp : p ∈ plainEventWords) :
    decode peerW (p.1 :: rest) = .ok (p.2, rest) := by
  have henc : encode p.2 = [p.1] := encode_of_mem_plainEventWords hp
  have hfit := operandsFit_of_operandWords_nil peerW (List.cons.inj henc).2
  rw [← decode_encode_append rest hfit, henc]
  rfl

/-- No operation's word is reserved. -/
theorem eventWord_not_reserved (i : Instr) : (eventWord i).toNat ∉ reservedEventWords := by
  cases i with
  | sStart v h => exact show 0x08 ∉ reservedEventWords by decide
  | rStart h => exact show 0x18 ∉ reservedEventWords by decide
  | tDeliverBit0 d | tDeliverBit1 d | tDeliverAck d | tDropBit0 d | tDropBit1 d | tDropAck d =>
    cases d <;> decide
  | _ => decide

/-- What decodes begins with an operation's word, and a reserved word is none. -/
theorem decode_error_of_reserved (peerW : Nat) (hw : w ∈ reservedEventWords) :
    ∃ e, decode peerW (w :: rest) = .error e := by
  cases hdec : decode peerW (w :: rest) with
  | error e => exact ⟨e, rfl⟩
  | ok p =>
    obtain ⟨i, rest'⟩ := p
    obtain ⟨hspelled, -⟩ := eq_encode_append_of_decode hdec
    have hword : w = (eventWord i).toNat := (List.cons.inj hspelled).1
    exact absurd (hword ▸ hw) (eventWord_not_reserved i)

theorem eventWords_covered : ∀ w < 64, w ∈ reservedEventWords ∨ w = 0x08 ∨ w = 0x18 ∨
    w ∈ plainEventWords.map Prod.fst := by
  decide

/-- The words of T.DROP (R85). -/
theorem encode_tDrop_of_mem :
    w ∈ [0x28, 0x29, 0x2A, 0x2C, 0x2D, 0x2E] → ∃ d k, encode (Instr.tDrop d k) = [w] := by
  simp only [List.mem_cons, List.not_mem_nil, or_false]
  rintro (rfl | rfl | rfl | rfl | rfl | rfl)
  exacts [⟨.sender, .bitZero, rfl⟩, ⟨.sender, .bitOne, rfl⟩, ⟨.sender, .ack, rfl⟩,
    ⟨.receiver, .bitZero, rfl⟩, ⟨.receiver, .bitOne, rfl⟩, ⟨.receiver, .ack, rfl⟩]

theorem step_refused_of_reserved (hw : w ∈ reservedEventWords) (htrace : s.trace = w :: rest) :
    ∃ r, step s = .refused r := by
  obtain ⟨e, he⟩ := decode_error_of_reserved (rest := rest) s.peerW hw
  exact ⟨_, step_of_decode_error (by simp [htrace]) (htrace ▸ he)⟩

/-- Settles O2: the map is the encoder's words, no other word is an operation's, and a step refuses
what it does not decode, S.EMIT alone, and T.DROP on a transport that loses nothing. -/
theorem eventWordMap : Obligations.EventWordMap := by
  refine ⟨fun _ _ p hp => decode_of_mem_plainEventWords hp, fun _ v h rest hfit => ⟨?_, ?_⟩,
    fun peerW _ _ hw => decode_error_of_reserved peerW hw, fun w hlt => ?_,
    fun s w rest htrace hw => ?_⟩
  · exact decode_encode_append (i := .sStart v h) rest hfit
  · exact decode_encode_append (i := .rStart h) rest hfit
  · simpa using eventWords_covered w hlt
  · rcases hw with hreserved | rfl | ⟨hlossy, hdrop⟩
    · exact step_refused_of_reserved hreserved htrace
    · exact ⟨_, step_of_trace_sEmit htrace⟩
    · obtain ⟨d, k, henc⟩ := encode_tDrop_of_mem hdrop
      exact step_refused_of_tDrop d k hlossy (by rw [htrace, henc]; rfl)

end Sys2Proof.Machine

/-! ### What completes and what is refused (42_link.md R160, R165, R166, R171) -/

namespace Sys2Proof.Machine

variable {s t : State} {i : Instr}

/-- A DISP has a step only where the dispatcher may take its kind (42_link.md R160, R171). -/
theorem exec_dispOp_of_not_enabled (d : Side) (k : Kind) (h : ¬ enabled (dispOp d k) s) :
    exec (dispOp d k) s = .refused .notEnabled := by
  rw [exec_dispOp]
  rw [enabled_dispOp, ← dispEnabled_iff] at h
  exact dispatch_of_not_enabled h

/-- The two premises of a drop, each refused by itself (42_link.md R166, 30_encoding.md R85). -/
theorem drop_refused_of_not {d : Side} {k : Kind}
    (h : ¬ (s.transportLossy = true ∧ (s.wire d).get k = true)) : ∃ r, drop d k s = .refused r := by
  by_cases hwire : (s.wire d).get k = true
  · exact drop_refused_of_lossless d k (Bool.eq_false_of_not_eq_true fun hlossy => h ⟨hlossy, hwire⟩)
  · exact ⟨.notEnabled, if_neg hwire⟩

/-- Whatever the cursors are, an operation whose `enabled` premises fail is refused. -/
theorem exec_refused_of_not_enabled (h : ¬ enabled i s) : ∃ r, exec i s = .refused r := by
  cases i with
  | sDispBit0 => exact ⟨_, exec_dispOp_of_not_enabled .sender .bitZero h⟩
  | sDispBit1 => exact ⟨_, exec_dispOp_of_not_enabled .sender .bitOne h⟩
  | sDispAck => exact ⟨_, exec_dispOp_of_not_enabled .sender .ack h⟩
  | rDispBit0 => exact ⟨_, exec_dispOp_of_not_enabled .receiver .bitZero h⟩
  | rDispBit1 => exact ⟨_, exec_dispOp_of_not_enabled .receiver .bitOne h⟩
  | rDispAck => exact ⟨_, exec_dispOp_of_not_enabled .receiver .ack h⟩
  | sEmit => exact ⟨.emitPrecondition, if_neg h⟩
  | tDeliverBit0 d | tDeliverBit1 d | tDeliverAck d => exact ⟨.notEnabled, if_neg h⟩
  | tDropBit0 d | tDropBit1 d | tDropAck d => exact drop_refused_of_not h
  | sLatchBit0 | sLatchBit1 | sLatchAck | sStart | sReset
  | rLatchBit0 | rLatchBit1 | rLatchAck | rStart | rReset => exact absurd trivial h

/-- A completing operation was enabled: otherwise it would have been refused. -/
theorem Effect.operation_enabled (h : Effect s i t) : enabled i s := by
  by_contra hnot
  obtain ⟨r, hr⟩ := exec_refused_of_not_enabled hnot
  cases h.exec_eq.symm.trans hr

/-! What an enabled operation does under R33, which leaves no cursor that picks no bit. -/

theorem Sender.Inv.ack_effect (hs : s.sender.Inv) (h : enabled .sDispAck s) :
    ∃ t, Effect s .sDispAck t := by
  obtain ⟨hstarted, hpend⟩ := h
  rcases hs.cursor_le.lt_or_eq with hlt | hlast
  · exact ⟨_, .ackEmits hstarted hpend hlt⟩
  · exact ⟨_, .ackAbsorbed hstarted hpend hlast⟩

theorem Receiver.Inv.bit_effect (hr : s.receiver.Inv) (b : Bool) (hstarted : s.receiver.fsm ≠ .idle)
    (hpend : s.receiver.pend.get (bitKind b) = true) :
    ∃ t, Effect s (Instr.rDisp (bitKind b)) t := by
  cases hfsm : s.receiver.fsm with
  | idle => exact absurd hfsm hstarted
  | run => exact ⟨_, .bitTaken b hfsm hpend (Nat.lt_succ_of_le (hr.run_cursor hfsm))⟩
  | done => exact ⟨_, .overrun b hfsm hpend⟩

theorem sStart_completes (s : State) (v : Word) (p : Peer) : ∃ t, Effect s (.sStart v p) t := by
  by_cases hidle : s.sender.fsm = .idle
  · exact ⟨_, .sStart v p hidle⟩
  · exact ⟨_, .sStartErr v p hidle⟩

theorem rStart_completes (s : State) (p : Peer) : ∃ t, Effect s (.rStart p) t := by
  by_cases hidle : s.receiver.fsm = .idle
  · exact ⟨_, .rStart p hidle⟩
  · exact ⟨_, .rStartErr p hidle⟩

theorem tDeliver_completes {d : Side} {k : Kind} (h : (s.wire d).get k = true) :
    ∃ t, Effect s (Instr.tDeliver d k) t :=
  ⟨_, deliver_effect (deliver_next_iff.mpr ⟨h, rfl⟩)⟩

theorem tDrop_completes {d : Side} {k : Kind}
    (h : s.transportLossy = true ∧ (s.wire d).get k = true) : ∃ t, Effect s (Instr.tDrop d k) t :=
  ⟨_, drop_effect (drop_next_iff.mpr ⟨h.1, h.2, rfl⟩)⟩

theorem EngineInv.completes_of_enabled (hs : EngineInv s) (h : enabled i s) :
    ∃ t, Effect s i t := by
  cases i with
  | sDispBit0 => exact ⟨_, .sUnexpected false h.1 h.2⟩
  | sDispBit1 => exact ⟨_, .sUnexpected true h.1 h.2⟩
  | sDispAck => exact hs.sender.ack_effect h
  | sLatchBit0 => exact ⟨_, .sLatch .bitZero⟩
  | sLatchBit1 => exact ⟨_, .sLatch .bitOne⟩
  | sLatchAck => exact ⟨_, .sLatch .ack⟩
  | sStart v p => exact sStart_completes s v p
  | sReset => exact ⟨_, .sReset⟩
  | sEmit => exact ⟨_, .sEmit h.1 (Nat.lt_succ_of_le h.2)⟩
  | rDispBit0 => exact hs.receiver.bit_effect false h.1 h.2
  | rDispBit1 => exact hs.receiver.bit_effect true h.1 h.2
  | rDispAck => exact ⟨_, .rUnexpected h.1 h.2⟩
  | rLatchBit0 => exact ⟨_, .rLatch .bitZero⟩
  | rLatchBit1 => exact ⟨_, .rLatch .bitOne⟩
  | rLatchAck => exact ⟨_, .rLatch .ack⟩
  | rStart p => exact rStart_completes s p
  | rReset => exact ⟨_, .rReset⟩
  | tDeliverBit0 d => exact tDeliver_completes (k := .bitZero) h
  | tDeliverBit1 d => exact tDeliver_completes (k := .bitOne) h
  | tDeliverAck d => exact tDeliver_completes (k := .ack) h
  | tDropBit0 d => exact tDrop_completes (k := .bitZero) h
  | tDropBit1 d => exact tDrop_completes (k := .bitOne) h
  | tDropAck d => exact tDrop_completes (k := .ack) h

/-- Settles O22: what is not enabled is refused, and under R33 what is enabled has an `Effect`. -/
theorem enabledOperationsComplete : Obligations.EnabledOperationsComplete := by
  refine ⟨fun i s hs => ?_, fun i s h => exec_refused_of_not_enabled h⟩
  simp only [exec_next_iff]
  exact ⟨hs.completes_of_enabled, fun ⟨_, h⟩ => h.operation_enabled⟩

/-! ### The sender's registers between START and RESET (40_sender.md R110) -/

/-- Only an accepted S.START and S.RESET write the payload and the peer. -/
theorem Effect.keeps_payload_peer (h : Effect s i t) (hreset : i.isResetOf .sender = false)
    (hstart : ¬ (i.isStartOf .sender = true ∧ s.sender.fsm = .idle)) :
    t.sender.payload = s.sender.payload ∧ t.sender.peer = s.sender.peer := by
  cases h with
  | sReset => cases hreset
  | sStart _ _ hidle => exact absurd ⟨rfl, hidle⟩ hstart
  | _ => exact ⟨rfl, rfl⟩

/-- The operations that move the cursor start in IDLE, or in RUN by R33. -/
theorem Effect.keeps_done (h : Effect s i t) (hs : s.sender.Inv)
    (hreset : i.isResetOf .sender = false) (hdone : s.sender.fsm = .done) :
    t.sender.cursor = s.sender.cursor ∧ t.sender.fsm = .done := by
  have hlast : s.sender.cursor.toNat = 32 := hs.done_iff.mp hdone
  cases h with
  | sReset => cases hreset
  | sStart _ _ hidle => cases hidle.symm.trans hdone
  | sEmit _ hlt | ackEmits _ _ hlt => omega
  | _ => exact ⟨rfl, hdone⟩

/-- Settles O31: a started sender accepts no S.START, and a DONE one has no bit left to send. -/
theorem senderRegistersFinal : Obligations.SenderRegistersFinal := by
  intro i s t hs hexec hreset
  have h : Effect s i t := exec_effect hexec
  have hpayload (hstarted : s.sender.fsm ≠ .idle) : t.sender.payload = s.sender.payload :=
    (h.keeps_payload_peer hreset fun hstart => hstarted hstart.2).1
  refine ⟨h.keeps_payload_peer hreset, hpayload, fun hdone => ?_⟩
  exact ⟨hpayload (by simp [hdone]), h.keeps_done hs.sender hreset hdone⟩

/-! ### The results of the sender's operations (40_sender.md)

Each is the `Effect` of its operation, spelled out as a record. -/

theorem Sender.reset_status : Sender.reset.status = 0x00000000#32 := by decide

/-- Settles O7: S.RESET puts the reset record in the sender's place. -/
theorem sResetResult : Obligations.SResetResult :=
  ⟨rfl, fun _ => ⟨_, Effect.sReset.exec_eq, rfl, Sender.reset_status, rfl, rfl⟩⟩

/-- Settles O8: an accepted S.START is `sendBit` at cursor 0 of the opened sender. -/
theorem sStartResult : Obligations.SStartResult :=
  fun _ v h => ⟨rfl, fun hidle => (Effect.sStart v h hidle).exec_eq,
    fun hstarted => (Effect.sStartErr v h hstarted).exec_eq⟩

/-- `sendBit` in RUN, field by field: the cursor advances without wrapping, and DONE is entered with the
32nd bit (40_sender.md R103). -/
theorem State.sendBit_eq (n : Nat) (hrun : s.sender.fsm = .run)
    (hlt : s.sender.cursor.toNat < 32) :
    s.sendBit n = { s with
      sender := { s.sender with
        cursor := s.sender.cursor + 1#6
        fsm := if s.sender.cursor.toNat = 31 then .done else .run
        ntfOut := some ⟨bitKind (s.sender.payload.getLsbD n), s.sender.peer⟩ }
      wires := { s.wires with
        toReceiver := s.wires.toReceiver.set (bitKind (s.sender.payload.getLsbD n)) true } } := by
  rw [← hrun, ← fsmAfter_succ s.sender.fsm hlt]
  rfl

/-- Settles O9, by the fields of `sendBit`; a step refuses S.EMIT presented alone. -/
theorem sEmitResult : Obligations.SEmitResult := by
  refine ⟨rfl, fun s rest htrace => ⟨_, step_of_trace_sEmit htrace⟩, fun s hrun hle => ?_⟩
  have hlt : s.sender.cursor.toNat < 32 := Nat.lt_succ_of_le hle
  exact ⟨_, _, (Effect.sEmit hrun hlt).exec_eq, rfl, State.sendBit_eq (s := s.silent) _ hrun hlt,
    cursor_succ hlt⟩

/-- Settles O10: below 32 the ACK's handler is `sendBit`, at 32 it does nothing. -/
theorem sDispAckResult : Obligations.SDispAckResult := by
  refine ⟨rfl, fun s h => exec_dispOp_of_not_enabled .sender .ack h, fun s hstarted hpend =>
    ⟨fun hrun hle => ?_, fun hlast => (Effect.ackAbsorbed hstarted hpend hlast).exec_eq⟩⟩
  have hlt : s.sender.cursor.toNat < 32 := Nat.lt_succ_of_le hle
  exact ⟨_, _, (Effect.ackEmits hstarted hpend hlt).exec_eq, rfl,
    State.sendBit_eq (s := s.observed .sender .ack) _ hrun hlt, cursor_succ hlt⟩

/-- Settles O11: both bit kinds are unexpected at the sender. -/
theorem sDispBitResult : Obligations.SDispBitResult :=
  ⟨rfl, rfl,
    fun _ => ⟨exec_dispOp_of_not_enabled .sender .bitZero, exec_dispOp_of_not_enabled .sender .bitOne⟩,
    fun _ hstarted => ⟨fun hpend => (Effect.sUnexpected false hstarted hpend).exec_eq,
      fun hpend => (Effect.sUnexpected true hstarted hpend).exec_eq⟩⟩

/-- Settles O12: a LATCH sets the latch of its kind, in every state. -/
theorem sLatchResult : Obligations.SLatchResult :=
  ⟨⟨rfl, rfl, rfl⟩, fun s => ⟨exec_latchOp .sender .bitZero s, exec_latchOp .sender .bitOne s,
    exec_latchOp .sender .ack s⟩⟩

end Sys2Proof.Machine

/-! ### The receiver's registers from DONE to R.RESET (41_receiver.md R137) -/

namespace Sys2Proof.Machine

variable {s t : State} {i : Instr}

/-- A bit is taken in RUN only, and R.START is accepted in IDLE only. -/
theorem Effect.keeps_receiver_done (h : Effect s i t) (hreset : i.isResetOf .receiver = false)
    (hdone : s.receiver.fsm = .done) :
    t.receiver.acc = s.receiver.acc ∧ t.receiver.cursor = s.receiver.cursor ∧
      t.receiver.fsm = .done := by
  cases h with
  | rReset => cases hreset
  | rStart _ hidle => cases hidle.symm.trans hdone
  | bitTaken _ hrun => cases hrun.symm.trans hdone
  | _ => exact ⟨rfl, rfl, hdone⟩

/-- Settles O32, by what every `Effect` keeps in DONE; DATA is the accumulator. -/
theorem receiverRegistersFinal : Obligations.ReceiverRegistersFinal := by
  intro i s t hexec hreset hdone
  obtain ⟨hacc, hcursor, hfsm⟩ := (exec_effect hexec).keeps_receiver_done hreset hdone
  exact ⟨hacc, hcursor, hfsm, hacc⟩

/-! ### The results of the receiver's operations (41_receiver.md)

Each is the `Effect` of its operation, spelled out as a record. -/

theorem Receiver.reset_status : Receiver.reset.status = 0x80000000#32 := by decide

/-- Settles O13: R.RESET puts the reset record in the receiver's place. -/
theorem rResetResult : Obligations.RResetResult :=
  ⟨rfl, fun _ => ⟨_, Effect.rReset.exec_eq, rfl, Receiver.reset_status, rfl, rfl⟩⟩

/-- Settles O14: R.START opens an IDLE receiver and only records an error at a started one. -/
theorem rStartResult : Obligations.RStartResult :=
  fun _ h => ⟨rfl, fun hidle => (Effect.rStart h hidle).exec_eq,
    fun hstarted => (Effect.rStartErr h hstarted).exec_eq⟩

/-- The two bit rows as one family over the bit (30_encoding.md R81). -/
theorem ite_rDispBit_eq_rDisp (b : Bool) :
    (if b then Instr.rDispBit1 else .rDispBit0) = Instr.rDisp (bitKind b) := by
  cases b <;> rfl

/-- `takeBit` in RUN, field by field: the cursor advances without wrapping, and DONE is entered with the
32nd bit (41_receiver.md R133, R134). -/
theorem State.takeBit_eq (n : Nat) (b : Bool) (hrun : s.receiver.fsm = .run)
    (hlt : s.receiver.cursor.toNat < 32) :
    s.takeBit n b = { s with
      receiver := { s.receiver with
        acc := setBit s.receiver.acc n b
        cursor := s.receiver.cursor + 1#6
        fsm := if s.receiver.cursor.toNat = 31 then .done else .run
        ntfOut := some ⟨.ack, s.receiver.peer⟩ }
      wires := { s.wires with toSender := { s.wires.toSender with ack := true } } } := by
  rw [← hrun, ← fsmAfter_succ s.receiver.fsm hlt]
  rfl

/-- Settles O15: in RUN the bit's handler is `takeBit` at the bit the cursor picks, in DONE it is the
overrun. -/
theorem rDispBitResult : Obligations.RDispBitResult := by
  refine ⟨rfl, rfl, fun s b => ?_⟩
  rw [ite_rDispBit_eq_rDisp]
  refine ⟨fun hnot => ?_, fun hrun hle hpend => ?_,
    fun hdone hpend => (Effect.overrun b hdone hpend).exec_eq⟩
  · exact exec_dispOp_of_not_enabled .receiver (bitKind b) ((enabled_dispOp ..).not.mpr hnot)
  · have hlt : s.receiver.cursor.toNat < 32 := Nat.lt_succ_of_le hle
    exact ⟨_, (Effect.bitTaken b hrun hpend hlt).exec_eq,
      State.takeBit_eq (s := s.observed .receiver (bitKind b)) _ b hrun hlt, cursor_succ hlt,
      fun j _ => getLsbD_setBit _ (by omega) b j⟩

/-- Settles O16: an ACK is unexpected at the receiver. -/
theorem rDispAckResult : Obligations.RDispAckResult :=
  ⟨rfl, fun _ => exec_dispOp_of_not_enabled .receiver .ack,
    fun _ hstarted hpend => (Effect.rUnexpected hstarted hpend).exec_eq⟩

/-- Settles O17: a LATCH sets the latch of its kind, in every state. -/
theorem rLatchResult : Obligations.RLatchResult :=
  ⟨⟨rfl, rfl, rfl⟩, fun s => ⟨exec_latchOp .receiver .bitZero s, exec_latchOp .receiver .bitOne s,
    exec_latchOp .receiver .ack s⟩⟩

end Sys2Proof.Machine

/-! ### What a link step can do in lock step (42_link.md R171, R172)

In lock step a link step that is no RESET and no START of a started engine either opens an engine
or moves the one notification outstanding: `LinkEffect` names the nine shapes, and the claims about
the link are case analyses of it. -/

namespace Sys2Proof.Machine

variable {s t : State} {i : Instr} {d : Side} {k : Kind}

/-- The steps of the link that R172 speaks of: the LATCH of an engine and S.EMIT are no steps of
their own (R90, R171), no engine is reset, and none is started twice. -/
structure LinkStep (s : State) (i : Instr) (t : State) : Prop where
  effect : Effect s i t
  linkOp : i.isLinkOp = true
  no_reset : i.isReset = false
  idle_of_start : ∀ d, i.isStartOf d = true → s.fsm d = .idle

/-- `LinkEffect s i t`: in lock step, the link step `i` takes `s` to `t`. -/
inductive LinkEffect (s : State) : Instr → State → Prop where
  | sStart (v : Word) (h : Peer) : s.sender.fsm = .idle →
      LinkEffect s (.sStart v h) ((s.openSender v h).sendBit 31)
  | rStart (h : Peer) : s.receiver.fsm = .idle → LinkEffect s (.rStart h) (s.openReceiver h)
  | deliverBit (b : Bool) : s.wires.toReceiver.get (bitKind b) = true →
      LinkEffect s (Instr.tDeliver .receiver (bitKind b)) (s.delivered .receiver (bitKind b))
  | bitTaken (b : Bool) : s.receiver.fsm = .run → s.receiver.pend.get (bitKind b) = true →
      s.receiver.cursor.toNat < 32 → LinkEffect s (Instr.rDisp (bitKind b))
        ((s.observed .receiver (bitKind b)).takeBit (31 - s.receiver.cursor.toNat) b)
  | deliverAck : s.wires.toSender.ack = true →
      LinkEffect s (.tDeliverAck .sender) (s.delivered .sender .ack)
  | ackEmits : s.sender.fsm ≠ .idle → s.sender.pend.ack = true → s.sender.cursor.toNat < 32 →
      LinkEffect s .sDispAck ((s.observed .sender .ack).sendBit (31 - s.sender.cursor.toNat))
  | ackAbsorbed : s.sender.fsm ≠ .idle → s.sender.pend.ack = true → s.sender.cursor.toNat = 32 →
      LinkEffect s .sDispAck (s.observed .sender .ack)
  | dropBit (b : Bool) : s.transportLossy = true → s.wires.toReceiver.get (bitKind b) = true →
      LinkEffect s (Instr.tDrop .receiver (bitKind b)) (s.silent.setWire .receiver (bitKind b) false)
  | dropAck : s.transportLossy = true → s.wires.toSender.ack = true →
      LinkEffect s (.tDropAck .sender) (s.silent.setWire .sender .ack false)

theorem LockStep.sender_bits_clear (h : LockStep s) (b : Bool) :
    s.wires.toSender.get (bitKind b) = false ∧ s.sender.pend.get (bitKind b) = false := by
  obtain ⟨hwire0, hwire1, -⟩ := h.no_wrong_wire
  obtain ⟨hpend0, hpend1, -⟩ := h.no_wrong_latch
  cases b
  · exact ⟨hwire0, hpend0⟩
  · exact ⟨hwire1, hpend1⟩

theorem LockStep.receiver_ack_clear (h : LockStep s) :
    s.wires.toReceiver.ack = false ∧ s.receiver.pend.ack = false :=
  ⟨h.no_wrong_wire.2.2, h.no_wrong_latch.2.2⟩

/-- What is on the way to the sender is an ACK. -/
theorem LockStep.eq_ack_of_toSender (h : LockStep s) (hwire : s.wires.toSender.get k = true) :
    k = .ack := by
  obtain rfl | ⟨b, rfl⟩ := kind_cases k
  · rfl
  · rw [(h.sender_bits_clear b).1] at hwire
    cases hwire

/-- What is on the way to the receiver carries a bit. -/
theorem LockStep.eq_bitKind_of_toReceiver (h : LockStep s)
    (hwire : s.wires.toReceiver.get k = true) : ∃ b, k = bitKind b := by
  obtain rfl | hb := kind_cases k
  · rw [KindFlags.get_ack, h.receiver_ack_clear.1] at hwire
    cases hwire
  · exact hb

/-- While a bit is latched the sender is one ahead, so by R33 the receiver has not received 32 bits. -/
theorem LockStep.receiver_not_done_of_pend (h : LockStep s) (hs : EngineInv s) {b : Bool}
    (hpend : s.receiver.pend.get (bitKind b) = true) : s.receiver.fsm ≠ .done := by
  intro hdone
  obtain ⟨-, hcursor, -⟩ :=
    h.of_bit_outstanding (b := b) (by simp [State.outstandingAtReceiver, hpend])
  have hlast := hs.receiver.done_iff.mp hdone
  have hle := hs.sender.cursor_le
  omega

/-- The nine shapes are all there is: an unexpected notification or an overrun is ruled out by the
invariant, and the rest are no link steps. -/
theorem LinkStep.linkEffect (hstep : LinkStep s i t) (hs : EngineInv s) (h : LockStep s) :
    LinkEffect s i t := by
  obtain ⟨heff, hlink, hreset, hstart⟩ := hstep
  cases heff with
  | sReset | rReset => cases hreset
  | sLatch k | rLatch k => simp at hlink
  | sEmit => cases hlink
  | sStart v p hidle => exact .sStart v p hidle
  | sStartErr v p hstarted => exact absurd (hstart .sender rfl) hstarted
  | rStart p hidle => exact .rStart p hidle
  | rStartErr p hstarted => exact absurd (hstart .receiver rfl) hstarted
  | ackEmits hstarted hpend hlt => exact .ackEmits hstarted hpend hlt
  | ackAbsorbed hstarted hpend hlast => exact .ackAbsorbed hstarted hpend hlast
  | sUnexpected b _ hpend => simp [(h.sender_bits_clear b).2] at hpend
  | rUnexpected _ hpend => simp [h.receiver_ack_clear.2] at hpend
  | bitTaken b hrun hpend hlt => exact .bitTaken b hrun hpend hlt
  | overrun b hdone hpend => exact absurd hdone (h.receiver_not_done_of_pend hs hpend)
  | deliverS k hwire =>
    obtain rfl := h.eq_ack_of_toSender hwire
    exact .deliverAck hwire
  | deliverR k hwire =>
    obtain ⟨b, rfl⟩ := h.eq_bitKind_of_toReceiver hwire
    exact .deliverBit b hwire
  | dropS k hlossy hwire =>
    obtain rfl := h.eq_ack_of_toSender hwire
    exact .dropAck hlossy hwire
  | dropR k hlossy hwire =>
    obtain ⟨b, rfl⟩ := h.eq_bitKind_of_toReceiver hwire
    exact .dropBit b hlossy hwire

/-! ### The lock step is kept (42_link.md R172)

The round's own operations keep it (`LockStep.deliverR_bit` to `LockStep.ackAbsorbed`); here are
the STARTs and the losses. -/

theorem State.sendBit_started (n : Nat) (h : s.sender.fsm ≠ .idle) :
    (s.sendBit n).sender.fsm ≠ .idle :=
  fsmAfter_ne_idle _ h

/-- An accepted S.START puts the first bit on the wire. -/
theorem LockStep.sStart (h : LockStep s) (v : Word) (p : Peer) (hidle : s.sender.fsm = .idle) :
    LockStep ((s.openSender v p).sendBit 31) := by
  obtain ⟨-, hcursor, hnb, hna⟩ := h.idle hidle
  have hsent : ((s.openSender v p).sendBit 31).nb = 1 := State.nb_sendBit 31 hnb
  have hfirst : ((s.openSender v p).sendBit 31).sender.cursor.toNat = s.receiver.cursor.toNat + 1 := by
    rw [hcursor]
    rfl
  refine ⟨by simpa [State.openSender] using h.no_wrong_wire, h.no_wrong_latch, h.no_error,
    fun hidle' => absurd hidle' (State.sendBit_started 31 nofun),
    fun _ => .inl ⟨hfirst, .inl hsent, hna, fun c hc => ?_⟩,
    fun j hj hge => ?_, h.unreceived⟩
  · have hnone : (s.openSender v p).outstandingAtReceiver (bitKind c) = false :=
      State.not_outstanding_of_nb hnb
    rw [State.outstanding_sendBit, hnone, Bool.or_false, decide_eq_true_iff] at hc
    rw [hc, State.sendBit_receiver,
      show (s.openSender v p).receiver.cursor = s.receiver.cursor from rfl, hcursor]
    rfl
  · have hge' : 32 ≤ j + s.receiver.cursor.toNat := hge
    omega

/-- An accepted R.START finds accumulator and cursor as R33 has them in IDLE. -/
theorem LockStep.rStart (h : LockStep s) (hs : s.receiver.Inv) (p : Peer)
    (hidle : s.receiver.fsm = .idle) : LockStep (s.openReceiver p) := by
  obtain ⟨hcursor, hacc⟩ := hs.idle_cursor hidle
  have hcursor' : (s.openReceiver p).receiver.cursor = s.receiver.cursor :=
    (BitVec.eq_of_toNat_eq hcursor).symm
  have hacc' : (s.openReceiver p).receiver.acc = s.receiver.acc := hacc.symm
  refine ⟨h.no_wrong_wire, h.no_wrong_latch, h.no_error, ?_, ?_, ?_, ?_⟩
  · rw [hcursor']
    exact h.idle
  · rw [hcursor']
    exact h.started
  · rw [hcursor', hacc']
    exact h.received
  · rw [hcursor', hacc']
    exact h.unreceived

/-- A bit that leaves its wire without a latch is outstanding no more. -/
theorem State.nb_dropR {b : Bool} (hwire : s.wires.toReceiver.get (bitKind b) = true) :
    (s.silent.setWire .receiver (bitKind b) false).nb + 1 = s.nb := by
  have hw := KindFlags.bits_set s.wires.toReceiver b false
  simp only [hwire, Bool.toNat_true, Bool.toNat_false] at hw
  simp only [State.nb, State.setWireR_wires_toReceiver, State.silent_wires, State.setWireR_receiver,
    State.silent_receiver_pend]
  omega

theorem State.na_dropS (hwire : s.wires.toSender.ack = true) :
    (s.silent.setWire .sender .ack false).na + 1 = s.na := by
  simp [State.na, hwire]
  omega

/-- After a lost bit nothing is outstanding, which a lossy transport admits. -/
theorem LockStep.dropBit (h : LockStep s) {b : Bool} (hlossy : s.transportLossy = true)
    (hwire : s.wires.toReceiver.get (bitKind b) = true) :
    LockStep (s.silent.setWire .receiver (bitKind b) false) := by
  obtain ⟨hstarted, hcursor, hnb, hna, -⟩ :=
    h.of_bit_outstanding (b := b) (by simp [State.outstandingAtReceiver, hwire])
  have hlost := State.nb_dropR hwire
  have hnone : (s.silent.setWire .receiver (bitKind b) false).nb = 0 := by omega
  refine ⟨by simpa using h.no_wrong_wire, h.no_wrong_latch, h.no_error,
    fun hidle => absurd hidle hstarted,
    fun _ => .inl ⟨hcursor, .inr ⟨hlossy, hnone⟩, hna, fun c hc => ?_⟩, h.received, h.unreceived⟩
  rw [State.not_outstanding_of_nb hnone] at hc
  cases hc

/-- After a lost ACK nothing is outstanding, which a lossy transport admits. -/
theorem LockStep.dropAck (h : LockStep s) (hlossy : s.transportLossy = true)
    (hwire : s.wires.toSender.ack = true) : LockStep (s.silent.setWire .sender .ack false) := by
  obtain ⟨hstarted, hcursor, hle, hnb, hna⟩ := h.of_ack_outstanding (by simp [State.na, hwire])
  have hlost := State.na_dropS hwire
  have hnone : (s.silent.setWire .sender .ack false).na = 0 := by omega
  refine ⟨h.no_wrong_wire, h.no_wrong_latch, h.no_error, fun hidle => absurd hidle hstarted,
    fun _ => .inr ?_, h.received, h.unreceived⟩
  rcases hle.lt_or_eq with hlt | hlast
  · exact .inl ⟨hcursor, hlt, hnb, .inr ⟨hlossy, hnone⟩⟩
  · exact .inr ⟨hcursor, hlast, hnb, by omega⟩

theorem LinkEffect.lockStep (heff : LinkEffect s i t) (hs : EngineInv s) (h : LockStep s) :
    LockStep t := by
  cases heff with
  | sStart v p hidle => exact h.sStart v p hidle
  | rStart p hidle => exact h.rStart hs.receiver p hidle
  | deliverBit b hwire => exact h.deliverR_bit hwire
  | bitTaken b _ hpend hlt => exact h.bitTaken hlt hpend
  | deliverAck hwire => exact h.deliverS_ack hwire
  | ackEmits _ hpend hlt => exact h.ackEmits hpend hlt
  | ackAbsorbed _ hpend hlast => exact h.ackAbsorbed hpend hlast
  | dropBit b hlossy hwire => exact h.dropBit hlossy hwire
  | dropAck hlossy hwire => exact h.dropAck hlossy hwire

theorem LinkStep.keeps_lockStep (hstep : LinkStep s i t) (hs : EngineInv s) (h : LockStep s) :
    EngineInv t ∧ LockStep t :=
  ⟨hstep.effect.engineInv hs, (hstep.linkEffect hs h).lockStep hs h⟩

/-- Settles O41: each of the nine shapes of a link step keeps the lock step. -/
theorem lockStepKept : Obligations.LockStepKept :=
  fun _ _ _ hs h hlink hreset hstart hexec =>
    LinkStep.keeps_lockStep ⟨exec_effect hexec, hlink, hreset, hstart⟩ hs h

end Sys2Proof.Machine

/-! ### How an operation moves latches and wire flags (42_link.md R160 to R167) -/

namespace Sys2Proof.Machine

variable {s t : State} {i : Instr} {d : Side} {k : Kind}

/-- Every way an operation treats an engine's latches: it leaves them, sets one, clears the one its DISP
observes, or resets the engine. -/
theorem Effect.pend_cases (h : Effect s i t) (d : Side) :
    t.pend d = s.pend d ∨ (∃ k, t.pend d = (s.pend d).set k true) ∨
      (∃ k, i = dispOp d k ∧ t.pend d = (s.pend d).set k false) ∨ i.isResetOf d = true := by
  cases d with
  | sender =>
    cases h with
    | sReset => exact .inr (.inr (.inr rfl))
    | ackEmits | ackAbsorbed => exact .inr (.inr (.inl ⟨.ack, rfl, rfl⟩))
    | sUnexpected b => exact .inr (.inr (.inl ⟨bitKind b, rfl, rfl⟩))
    | sLatch k | deliverS k => exact .inr (.inl ⟨k, rfl⟩)
    | _ => exact .inl rfl
  | receiver =>
    cases h with
    | rReset => exact .inr (.inr (.inr rfl))
    | rUnexpected => exact .inr (.inr (.inl ⟨.ack, rfl, rfl⟩))
    | bitTaken b | overrun b => exact .inr (.inr (.inl ⟨bitKind b, rfl, rfl⟩))
    | rLatch k | deliverR k => exact .inr (.inl ⟨k, rfl⟩)
    | _ => exact .inl rfl

/-- A set latch is cleared by its own DISP or by RESET only. -/
theorem Effect.latch_kept (h : Effect s i t) (hreset : i.isResetOf d = false) (hdisp : i ≠ dispOp d k)
    (hpend : (s.pend d).get k = true) : (t.pend d).get k = true := by
  obtain hkept | ⟨k', hset⟩ | ⟨k', rfl, hcleared⟩ | hreset' := h.pend_cases d
  · rw [hkept]
    exact hpend
  · rw [hset]
    exact KindFlags.get_set_true_of_get k' hpend
  · have hne : k ≠ k' := fun e => hdisp (e ▸ rfl)
    rw [hcleared, KindFlags.get_set_of_ne _ _ hne]
    exact hpend
  · cases hreset.symm.trans hreset'

/-- A started engine stays started until its RESET. -/
theorem Effect.started_kept (h : Effect s i t) (hreset : i.isResetOf d = false)
    (hstarted : s.fsm d ≠ .idle) : t.fsm d ≠ .idle := by
  cases d with
  | sender =>
    cases h with
    | sReset => cases hreset
    | sStart => exact State.sendBit_started 31 nofun
    | sEmit | ackEmits => exact State.sendBit_started _ hstarted
    | _ => exact hstarted
  | receiver =>
    cases h with
    | rReset => cases hreset
    | rStart => nofun
    | bitTaken => exact fsmAfter_ne_idle _ hstarted
    | _ => exact hstarted

/-- An enabled DISP stays enabled until it is taken or its engine is reset. -/
theorem Effect.dispOp_stays_enabled (h : Effect s i t) (hreset : i.isResetOf d = false)
    (hdisp : i ≠ dispOp d k) (henabled : enabled (dispOp d k) s) : enabled (dispOp d k) t := by
  rw [enabled_dispOp] at henabled ⊢
  obtain ⟨hstarted, hpend⟩ := henabled
  exact ⟨h.started_kept hreset hstarted, h.latch_kept hreset hdisp hpend⟩

@[simp] theorem isStartOf_dispOp (d e : Side) (k : Kind) : (dispOp d k).isStartOf e = false := by
  cases d <;> simp [dispOp]

@[simp] theorem isResetOf_dispOp (d e : Side) (k : Kind) : (dispOp d k).isResetOf e = false := by
  cases d <;> simp [dispOp]

theorem dispOp_inj {k' : Kind} : dispOp d k = dispOp d k' ↔ k = k' := by
  cases d <;> cases k <;> cases k' <;> decide

/-- The dispatcher refuses a DISP exactly where it is not enabled: no handler refuses. -/
theorem exec_dispOp_refused_iff :
    exec (dispOp d k) s = .refused .notEnabled ↔ ¬ enabled (dispOp d k) s := by
  refine ⟨fun hrefused henabled => ?_, exec_dispOp_of_not_enabled d k⟩
  rw [enabled_dispOp, ← dispEnabled_iff] at henabled
  rw [exec_dispOp, dispatch_of_enabled henabled] at hrefused
  exact handlerOf_ne_refused d k _ _ hrefused

/-- A DISP that is taken leaves its latch clear, whatever its handler does. -/
theorem exec_dispOp_clears_latch (h : exec (dispOp d k) s = .next t) : (t.pend d).get k = false := by
  rw [exec_dispOp, dispatch_next_iff] at h
  obtain ⟨hs, hr, -⟩ := handlerOf_frame h.2
  cases d with
  | sender => rw [State.pend_sender, hs]; exact KindFlags.get_set_same _ _ _
  | receiver => rw [State.pend_receiver, hr]; exact KindFlags.get_set_same _ _ _

/-- Settles O21: no operation on an IDLE engine, and no START, is the DISP that alone could clear the
latch. -/
theorem dispatchEnabledness : Obligations.DispatchEnabledness := by
  refine ⟨fun s d k => ⟨?_, fun t => exec_dispOp_clears_latch⟩,
    fun s t d i k hexec hcase hreset hpend => ?_⟩
  · rw [exec_dispOp_refused_iff, enabled_dispOp]
  · have h : Effect s i t := exec_effect hexec
    refine h.latch_kept hreset ?_ hpend
    rintro rfl
    obtain hidle | hstart := hcase
    · exact ((enabled_dispOp d k s).mp h.operation_enabled).1 hidle
    · simp at hstart

/-- Settles O23: an enabled DISP completes under R33, and it leaves the other one enabled. -/
theorem anyPendingKindMayBeNext : Obligations.AnyPendingKindMayBeNext := by
  intro s d k k' hs hstarted hne hpend hpend'
  obtain ⟨t, h⟩ := hs.completes_of_enabled ((enabled_dispOp d k s).mpr ⟨hstarted, hpend⟩)
  exact ⟨t, h.exec_eq, h.dispOp_stays_enabled (isResetOf_dispOp ..) (dispOp_inj.not.mpr hne)
    ((enabled_dispOp d k' s).mpr ⟨hstarted, hpend'⟩)⟩

/-- Every way an operation treats the wire flags to an engine: the other engine's emission sets one;
without an emission it leaves them, or takes off the one it delivers or drops. -/
theorem Effect.wire_cases (h : Effect s i t) (d : Side) :
    (∃ n, t.ntfOut (otherSide d) = some n ∧ t.wire d = (s.wire d).set n.kind true) ∨
      (t.ntfOut (otherSide d) = none ∧ (t.wire d = s.wire d ∨
        ∃ k, (i = Instr.tDeliver d k ∨ i = Instr.tDrop d k) ∧ t.wire d = (s.wire d).set k false)) := by
  cases d with
  | sender =>
    cases h with
    | bitTaken => exact .inl ⟨_, rfl, rfl⟩
    | deliverS k => exact .inr ⟨rfl, .inr ⟨k, .inl rfl, rfl⟩⟩
    | dropS k => exact .inr ⟨rfl, .inr ⟨k, .inr rfl, rfl⟩⟩
    | _ => exact .inr ⟨rfl, .inl rfl⟩
  | receiver =>
    cases h with
    | sStart | sEmit | ackEmits => exact .inl ⟨_, rfl, rfl⟩
    | deliverR k => exact .inr ⟨rfl, .inr ⟨k, .inl rfl, rfl⟩⟩
    | dropR k => exact .inr ⟨rfl, .inr ⟨k, .inr rfl, rfl⟩⟩
    | _ => exact .inr ⟨rfl, .inl rfl⟩

theorem Effect.emission_sets_wire (h : Effect s i t)
    (hemits : (t.ntfOut (otherSide d)).map Notification.kind = some k) : (t.wire d).get k = true := by
  obtain ⟨n, hout, hset⟩ | ⟨hout, -⟩ := h.wire_cases d <;> rw [hout] at hemits <;> cases hemits
  rw [hset]
  exact KindFlags.get_set_same _ _ _

theorem Effect.emission_of_wire_rises (h : Effect s i t) (hclear : (s.wire d).get k = false)
    (hset : (t.wire d).get k = true) : (t.ntfOut (otherSide d)).map Notification.kind = some k := by
  obtain ⟨n, hout, hwire⟩ | ⟨-, hwire | ⟨k', -, hwire⟩⟩ := h.wire_cases d
  · by_cases e : k = n.kind
    · rw [hout, e]
      rfl
    · rw [hwire, KindFlags.get_set_of_ne _ _ e, hclear] at hset
      cases hset
  · rw [hwire, hclear] at hset
    cases hset
  · rw [hwire, KindFlags.get_set, hclear, ite_self] at hset
    cases hset

theorem Effect.moved_of_wire_falls (h : Effect s i t) (hset : (s.wire d).get k = true)
    (hclear : (t.wire d).get k = false) : i = Instr.tDeliver d k ∨ i = Instr.tDrop d k := by
  obtain ⟨n, -, hwire⟩ | ⟨-, hwire | ⟨k', hi, hwire⟩⟩ := h.wire_cases d
  · rw [hwire, KindFlags.get_set_true_of_get _ hset] at hclear
    cases hclear
  · rw [hwire, hset] at hclear
    cases hclear
  · by_cases e : k = k'
    · exact e ▸ hi
    · rw [hwire, KindFlags.get_set_of_ne _ _ e, hset] at hclear
      cases hclear

/-- Settles O37, by the cases of `Effect.wire_cases`. -/
theorem wiresAreCausal : Obligations.WiresAreCausal := fun _ _ _ _ _ hexec =>
  have h := exec_effect hexec
  ⟨h.emission_of_wire_rises, h.emission_sets_wire, h.moved_of_wire_falls⟩

/-! ### One ACK for each bit taken (42_link.md R170) -/

/-- In RUN the dispatch of a bit advances the cursor and sends an ACK to the peer. -/
theorem Effect.takesBit_acknowledged (h : Effect s i t) (htakes : TakesBit s i) :
    t.receiver.cursor.toNat = s.receiver.cursor.toNat + 1 ∧
      t.receiver.ntfOut = some ⟨.ack, s.receiver.peer⟩ ∧ t.wires.toSender.ack = true := by
  obtain ⟨hdisp, hrun⟩ := htakes
  cases h with
  | bitTaken b _ _ hlt => exact ⟨cursor_succ hlt, rfl, rfl⟩
  | overrun b hdone => cases hrun.symm.trans hdone
  | _ => simp at hdisp

/-- Whatever takes no bit leaves the receiver's cursor, which in IDLE is 0 already. -/
theorem Effect.receiver_cursor_kept (h : Effect s i t) (hr : s.receiver.Inv)
    (hreset : i.isResetOf .receiver = false) (hnot : ¬ TakesBit s i) :
    t.receiver.cursor = s.receiver.cursor ∧ t.receiver.ntfOut = none := by
  cases h with
  | rReset => cases hreset
  | rStart _ hidle => exact ⟨(BitVec.eq_of_toNat_eq (hr.idle_cursor hidle).1).symm, rfl⟩
  | bitTaken b hrun => exact absurd ⟨by simp, hrun⟩ hnot
  | _ => exact ⟨rfl, rfl⟩

/-- Settles O34. -/
theorem receiverAcknowledgesEachBit : Obligations.ReceiverAcknowledgesEachBit :=
  fun _ _ _ hs hexec hreset =>
    have h := exec_effect hexec
    ⟨h.takesBit_acknowledged, h.receiver_cursor_kept hs.receiver hreset⟩

/-! ### Coalescing (42_link.md R162, R174) -/

theorem KindFlags.set_of_get {f : KindFlags} {b : Bool} (h : f.get k = b) : f.set k b = f := by
  rw [← h, KindFlags.set_get_self]

/-- Settles O39: a LATCH taken again ORs the same line, and a set latch is set already. -/
theorem arrivalsCoalesce : Obligations.ArrivalsCoalesce := by
  refine ⟨fun s d k => ?_, fun s t d k hpend hexec d' => ?_⟩
  · have htwice := execAll_latchOps d k [k] s
    have honce := execAll_latchOps d k [] s
    simp only [List.map_cons, List.map_nil] at htwice honce
    rw [htwice, honce]
    simp
  · rw [exec_tDeliver] at hexec
    obtain ⟨-, rfl⟩ := deliver_next_iff.mp hexec
    cases d with
    | sender =>
      cases d' with
      | sender => exact KindFlags.set_of_get hpend
      | receiver => rfl
    | receiver =>
      cases d' with
      | sender => rfl
      | receiver => exact KindFlags.set_of_get hpend

/-! ### The transport's results (42_link.md R165, R166) -/

/-- Settles O18: `deliver` by the side it delivers to. -/
theorem tDeliverResult : Obligations.TDeliverResult := by
  refine ⟨fun d k => by cases d <;> cases k <;> rfl, fun s d k hclear => ?_, fun s d k hwire => ?_⟩
  · rw [exec_tDeliver]
    exact if_neg (by simp [hclear])
  · rw [exec_tDeliver]
    refine ⟨_, deliver_next_iff.mpr ⟨hwire, rfl⟩, ?_, ?_⟩ <;> rintro rfl <;> rfl

/-- Settles O19: `drop` by the side it takes the notification from. -/
theorem tDropResult : Obligations.TDropResult := by
  refine ⟨fun d k => by cases d <;> cases k <;> rfl, fun s d k hnot => ?_,
    fun s d k hlossy hwire => ?_⟩
  · rw [exec_tDrop]
    exact drop_refused_of_not hnot
  · rw [exec_tDrop]
    refine ⟨_, drop_next_iff.mpr ⟨hlossy, hwire, rfl⟩, ?_, ?_⟩ <;> rintro rfl <;> rfl

/-! ### The renderings (42_link.md R176, R177) -/

theorem bin32_getElem? (v : Word) {j : Nat} (hj : j < 32) :
    (bin32 v)[j]? = some (if v.getLsbD (31 - j) then '1' else '0') := by
  rw [bin32, List.getElem?_map, List.getElem?_range hj]
  rfl

theorem bitChar_injective :
    ∀ {b c : Bool}, (if b then '1' else '0') = (if c then '1' else '0') → b = c := by
  decide

/-- A word is read back from its rendering, bit `i` from character `31 - i`. -/
theorem bin32_injective {v w : Word} (h : bin32 v = bin32 w) : v = w := by
  refine BitVec.eq_of_getLsbD_eq fun i hi => ?_
  have hchar := congrArg (·[31 - i]?) h
  simp only [bin32_getElem? _ (show 31 - i < 32 by omega), show 31 - (31 - i) = i by omega] at hchar
  exact bitChar_injective (Option.some.inj hchar)

/-- Settles O51. -/
theorem bin32Rendering : Obligations.Bin32Rendering :=
  ⟨fun v => ⟨by simp [bin32], fun _ => bin32_getElem? v⟩, fun _ _ => bin32_injective⟩

theorem toDigits_head?_ne_minus (n : Nat) : (Nat.toDigits 10 n).head? ≠ some '-' := by
  intro h
  have hdigit := Nat.isDigit_of_mem_toDigits (by decide) (by decide) (List.mem_of_mem_head? h)
  cases hdigit

/-- Settles O52: a numeral's digits hold no sign. -/
theorem decimalSign : Obligations.DecimalSign := by
  intro v
  by_cases hneg : signed32 v < 0
  · simp [decimal32, hneg]
  · simp [decimal32, hneg, toDigits_head?_ne_minus]

end Sys2Proof.Machine

/-! ### The lock step along a run from `Clean` (42_link.md R172) -/

namespace Sys2Proof.Machine

variable {s t : State} {i : Instr} {d : Side} {k : Kind}

theorem Clean.fsm_idle (h : Clean s) (d : Side) : s.fsm d = .idle := by
  cases d with
  | sender => rw [State.fsm_sender, h.sender]; rfl
  | receiver => rw [State.fsm_receiver, h.receiver]; rfl

theorem Clean.lockStep (h : Clean s) : LockStep s := by
  obtain ⟨hsender, hreceiver, hwires⟩ := h
  have hcursor : s.receiver.cursor.toNat = 0 := by rw [hreceiver]; rfl
  have hacc : s.receiver.acc = 0#32 := by rw [hreceiver]; rfl
  refine ⟨?_, ?_, ?_, fun _ => ⟨?_, hcursor, ?_, ?_⟩, fun hstarted => ?_, fun j hj hge => ?_,
    fun j _ _ => by simp [hacc]⟩
  · rw [hwires]
    exact ⟨rfl, rfl, rfl⟩
  · rw [hsender, hreceiver]
    exact ⟨rfl, rfl, rfl⟩
  · rw [State.noError, hsender, hreceiver]
    exact ⟨rfl, rfl, rfl, rfl, rfl⟩
  · rw [hsender]
    rfl
  · rw [State.nb, hwires, hreceiver]
    rfl
  · rw [State.na, hwires, hsender]
    rfl
  · rw [hsender] at hstarted
    exact absurd rfl hstarted
  · omega

/-- Settles O43. -/
theorem cleanIsLockStep : Obligations.CleanIsLockStep := fun _ => Clean.lockStep

theorem isResetOf_of_not_isReset (h : i.isReset = false) (d : Side) : i.isResetOf d = false := by
  obtain ⟨hsender, hreceiver⟩ := Bool.or_eq_false_iff.mp h
  cases d
  · exact hsender
  · exact hreceiver

/-- Only START takes an engine out of IDLE. -/
theorem Effect.isStartOf_of_started (h : Effect s i t) (hidle : s.fsm d = .idle)
    (hstarted : t.fsm d ≠ .idle) : i.isStartOf d = true := by
  cases d with
  | sender =>
    cases h with
    | sStart => rfl
    | sReset => exact absurd rfl hstarted
    | sEmit hrun => cases hidle.symm.trans hrun
    | ackEmits hnot => exact absurd hidle hnot
    | _ => exact absurd hidle hstarted
  | receiver =>
    cases h with
    | rStart => rfl
    | rReset => exact absurd rfl hstarted
    | bitTaken _ hrun => cases hidle.symm.trans hrun
    | _ => exact absurd hidle hstarted

/-- At most one START per engine, the one that a started engine has had counted in. -/
def StartsAtMostOnce (is : List Instr) (s : State) : Prop :=
  ∀ d, is.countP (Instr.isStartOf d) + (if s.fsm d = .idle then 0 else 1) ≤ 1

theorem StartsAtMostOnce.idle_of_start {is : List Instr} (h : StartsAtMostOnce (i :: is) s)
    (hstart : i.isStartOf d = true) : s.fsm d = .idle := by
  have hd := h d
  rw [List.countP_cons_of_pos hstart] at hd
  by_contra hstarted
  rw [if_neg hstarted] at hd
  omega

theorem StartsAtMostOnce.tail {is : List Instr} (h : StartsAtMostOnce (i :: is) s)
    (heff : Effect s i t) : StartsAtMostOnce is t := by
  intro d
  have hd := h d
  rw [List.countP_cons] at hd
  by_cases hidle : t.fsm d = .idle
  · rw [if_pos hidle]
    omega
  · rw [if_neg hidle]
    by_cases hidle' : s.fsm d = .idle
    · rw [if_pos (heff.isStartOf_of_started hidle' hidle)] at hd
      omega
    · rw [if_neg hidle'] at hd
      omega

/-- A run of link operations without RESET, no engine started twice, keeps the lock step. -/
theorem LockStep.execAll {is : List Instr} (hs : EngineInv s) (h : LockStep s)
    (hlink : ∀ i ∈ is, i.isLinkOp = true ∧ i.isReset = false) (hstarts : StartsAtMostOnce is s)
    (hrun : execAll is s = .next t) : LockStep t := by
  induction is generalizing s with
  | nil =>
    cases hrun
    exact h
  | cons i is ih =>
    obtain ⟨u, hi, hu⟩ := execAll_cons_eq_next.mp hrun
    obtain ⟨hop, hreset⟩ := hlink i List.mem_cons_self
    have heff : Effect s i u := exec_effect hi
    have hstep : LinkStep s i u := ⟨heff, hop, hreset, fun _ => hstarts.idle_of_start⟩
    obtain ⟨hu', hlock⟩ := hstep.keeps_lockStep hs h
    exact ih hu' hlock (fun j hj => hlink j (List.mem_cons_of_mem _ hj)) (hstarts.tail heff) hu

/-- In lock step at most one notification is outstanding. -/
theorem LockStep.outstanding_le_one (h : LockStep s) : s.nb + s.na ≤ 1 := by
  by_cases hidle : s.sender.fsm = .idle
  · obtain ⟨-, -, hnb, hna⟩ := h.idle hidle
    omega
  · obtain ⟨-, hnb | ⟨-, hnb⟩, hna, -⟩ | ⟨-, -, hnb, hna | ⟨-, hna⟩⟩ | ⟨-, -, hnb, hna⟩ :=
      h.started hidle <;> omega

/-- Settles O42: `Clean` is in lock step, and its run keeps it. -/
theorem lockStepReachable : Obligations.LockStepReachable := by
  rintro is s t hclean ⟨hlink, hsender, hreceiver⟩ hrun
  have hstarts : StartsAtMostOnce is s := fun d => by
    rw [if_pos (hclean.fsm_idle d)]
    cases d
    · exact hsender
    · exact hreceiver
  have ht := hclean.lockStep.execAll (engineInvariantAtPowerOn.2 s hclean) hlink hstarts hrun
  exact ⟨ht, ht.outstanding_le_one⟩

/-! ### A lost notification and the stall (42_link.md R180) -/

theorem KindFlags.eq_none {f : KindFlags} (hack : f.ack = false)
    (hbits : ∀ b, f.get (bitKind b) = false) : f = KindFlags.none := by
  refine KindFlags.ext_get fun k => ?_
  rw [KindFlags.get_none]
  obtain rfl | ⟨b, rfl⟩ := kind_cases k
  · exact hack
  · exact hbits b

/-- In lock step nothing is pending when no bit and no ACK is outstanding. -/
theorem LockStep.nothingPending (h : LockStep s) (hnb : s.nb = 0) (hna : s.na = 0) :
    NothingPending s := by
  have hbits (b : Bool) := Bool.or_eq_false_iff.mp (State.not_outstanding_of_nb (b := b) hnb)
  obtain ⟨hwireAck, hpendAck⟩ := Nat.add_eq_zero_iff.mp hna
  obtain ⟨hwireAck', hpendAck'⟩ := h.receiver_ack_clear
  have htoSender : s.wires.toSender = KindFlags.none :=
    KindFlags.eq_none (by simpa using hwireAck) fun b => (h.sender_bits_clear b).1
  have htoReceiver : s.wires.toReceiver = KindFlags.none :=
    KindFlags.eq_none hwireAck' fun b => (hbits b).1
  exact ⟨congrArg₂ Wires.mk htoSender htoReceiver,
    KindFlags.eq_none (by simpa using hpendAck) fun b => (h.sender_bits_clear b).2,
    KindFlags.eq_none hpendAck' fun b => (hbits b).2⟩

/-- A drop takes away the one notification outstanding: an ACK, the cursors then equal, or a bit, the
sender then one ahead. -/
theorem LockStep.dropped (h : LockStep s) (hdrop : drop d k s = .next t) :
    LockStep t ∧ NothingPending t ∧ t.receiver.fsm = s.receiver.fsm ∧ t.sender.fsm = s.sender.fsm ∧
      (s.sender.cursor.toNat = s.receiver.cursor.toNat ∨
        s.sender.cursor.toNat = s.receiver.cursor.toNat + 1) := by
  obtain ⟨hlossy, hwire, rfl⟩ := drop_next_iff.mp hdrop
  cases d with
  | sender =>
    obtain rfl := h.eq_ack_of_toSender hwire
    obtain ⟨-, hcursor, -, hnb, hna⟩ := h.of_ack_outstanding (by simp_all [State.na])
    have hlost := State.na_dropS hwire
    have ht := h.dropAck hlossy hwire
    exact ⟨ht, ht.nothingPending hnb (by omega), rfl, rfl, .inl hcursor⟩
  | receiver =>
    obtain ⟨b, rfl⟩ := h.eq_bitKind_of_toReceiver hwire
    obtain ⟨-, hcursor, hnb, hna, -⟩ :=
      h.of_bit_outstanding (b := b) (by simp_all [State.outstandingAtReceiver])
    have hlost := State.nb_dropR hwire
    have ht := h.dropBit hlossy hwire
    exact ⟨ht, ht.nothingPending (by omega) hna, rfl, rfl, .inr hcursor⟩

/-- Settles O47: with the one notification lost nothing is pending, so nothing is enabled; a sender
that is DONE has sent the 32nd bit, which the receiver has not received. -/
theorem lostNotificationStalls : Obligations.LostNotificationStalls := by
  intro s t d k hs h hnot hexec
  rw [exec_tDrop] at hexec
  obtain ⟨hlock, hnothing, hreceiver, hsender, hcursor⟩ := h.dropped hexec
  have hnot' : t.receiver.fsm ≠ .done := hreceiver ▸ hnot
  refine ⟨⟨fun _ => hnothing.not_enabled, fun hcomplete => hnot' hcomplete.2⟩, hnothing, hnot',
    hlock.no_error, fun hdone => ?_⟩
  have hsent : s.sender.cursor.toNat = 32 := hs.sender.done_iff.mp (hsender ▸ hdone)
  have hreceived : s.receiver.cursor.toNat ≠ 32 := fun e => hnot (hs.receiver.done_iff.mpr e)
  omega

/-- With nothing pending and the sender started, a link operation but RESET can only be a START: it
opens the receiver or records an error, and completes no run. -/
theorem Effect.of_nothingPending (h : Effect s i t) (hnothing : NothingPending s)
    (hstarted : s.sender.fsm ≠ .idle) (hlink : i.isLinkOp = true) (hreset : i.isReset = false) :
    NothingPending t ∧ t.sender.fsm ≠ .idle ∧ (Complete t → Complete s) := by
  have hquiet : i.isDispOrDeliver = false :=
    Bool.eq_false_of_not_eq_true fun hi => hnothing.not_enabled hi h.operation_enabled
  cases h with
  | sReset | rReset => cases hreset
  | sEmit => cases hlink
  | sLatch | rLatch => simp at hlink
  | ackEmits | ackAbsorbed | rUnexpected => cases hquiet
  | sUnexpected | bitTaken | overrun | deliverS | deliverR => simp at hquiet
  | dropS k _ hwire | dropR k _ hwire =>
    rw [hnothing.1] at hwire
    cases k <;> cases hwire
  | sStart _ _ hidle => exact absurd hidle hstarted
  | rStart => exact ⟨hnothing, hstarted, fun hcomplete => nomatch hcomplete.2⟩
  | sStartErr | rStartErr => exact ⟨hnothing, hstarted, id⟩

/-- Settles O48, by induction on the operations. -/
theorem onlyResetLeavesAStall : Obligations.OnlyResetLeavesAStall := by
  intro is s t hstalled hnothing hstarted hlink hrun
  induction is generalizing s with
  | nil =>
    cases hrun
    exact ⟨hstalled, hnothing⟩
  | cons i is ih =>
    obtain ⟨u, hi, hu⟩ := execAll_cons_eq_next.mp hrun
    obtain ⟨hop, hreset⟩ := hlink i List.mem_cons_self
    obtain ⟨hnothing', hstarted', hcomplete⟩ :=
      (exec_effect hi).of_nothingPending hnothing hstarted hop hreset
    exact ih u ⟨fun _ => hnothing'.not_enabled, fun hc => hstalled.2 (hcomplete hc)⟩ hnothing' hstarted'
      (fun j hj => hlink j (List.mem_cons_of_mem _ hj)) hu

end Sys2Proof.Machine

/-! ### Transfers (42_link.md R171, R173, R175, R179)

Along a transfer the lock step holds, the dispatches taken so far can be read off the cursors, and
fairness takes every notification in flight to its dispatch; so the 32nd ACK is dispatched, and what
the state is then follows from the lock step. -/

namespace Sys2Proof.Machine

variable {s t : State} {i : Instr} {d : Side} {k : Kind}

/-! What one link step adds to the counts. -/

theorem LinkEffect.receiver_cursor (h : LinkEffect s i t) (hr : s.receiver.Inv) :
    t.receiver.cursor.toNat = s.receiver.cursor.toNat + i.isBitDispatch.toNat := by
  cases h with
  | rStart p hidle =>
    rw [(hr.idle_cursor hidle).1]
    rfl
  | bitTaken b _ _ hlt => simp [cursor_succ hlt]
  | deliverBit b | dropBit b => simp
  | sStart | deliverAck | ackEmits | ackAbsorbed | dropAck => rfl

/-- An ACK sent is outstanding until it is dispatched, on a transport that loses nothing. -/
theorem LinkEffect.na (h : LinkEffect s i t) (hlock : LockStep s)
    (hlossless : s.transportLossy = false) :
    t.na + (decide (i = .sDispAck)).toNat = s.na + i.isBitDispatch.toNat := by
  cases h with
  | sStart | rStart => rfl
  | deliverBit b => simp [State.na]
  | bitTaken b _ hpend =>
    obtain ⟨-, -, -, hna, -⟩ :=
      hlock.of_bit_outstanding (b := b) (by simp [State.outstandingAtReceiver, hpend])
    rw [State.na_takeBit (s := s.observed .receiver (bitKind b)) _ hna, hna]
    simp
  | deliverAck hwire =>
    obtain ⟨-, -, -, -, hna⟩ := hlock.of_ack_outstanding (by simp [State.na, hwire])
    rw [hna]
    simp [State.na, Instr.isBitDispatch]
  | ackEmits _ hpend | ackAbsorbed _ hpend => exact State.na_observeAck hpend
  | dropBit _ hlossy | dropAck hlossy => cases hlossless.symm.trans hlossy

/-- 1 for a started sender: the bit that its START sent. -/
def State.bitOfStart (s : State) : Nat := if s.sender.fsm = .idle then 0 else 1

/-- Beside S.START it is the dispatch of an ACK that sends a bit. -/
theorem LinkEffect.sender_cursor (h : LinkEffect s i t) (hs : s.sender.Inv) :
    t.sender.cursor.toNat + s.bitOfStart = s.sender.cursor.toNat + t.bitOfStart +
      (decide (i = .sDispAck) && t.ntfOutValid .sender).toNat := by
  cases h with
  | sStart v p hidle =>
    have hstarted : ((s.openSender v p).sendBit 31).sender.fsm ≠ .idle := State.sendBit_started 31 nofun
    rw [State.bitOfStart, State.bitOfStart, if_pos hidle, if_neg hstarted, hs.idle_cursor hidle]
    rfl
  | ackEmits hstarted _ hlt =>
    have hstarted' (n : Nat) : ((s.observed .sender .ack).sendBit n).sender.fsm ≠ .idle :=
      State.sendBit_started n hstarted
    have hadvance (n : Nat) : ((s.observed .sender .ack).sendBit n).sender.cursor.toNat =
        s.sender.cursor.toNat + 1 := cursor_succ hlt
    rw [State.bitOfStart, State.bitOfStart, if_neg hstarted, if_neg (hstarted' _), hadvance]
    rfl
  | deliverBit b | bitTaken b | dropBit b => cases b <;> rfl
  | rStart | deliverAck | ackAbsorbed | dropAck => rfl

/-- The operands of the two STARTs, in an engine that is started. -/
structure Configured (v : Word) (p q : Peer) (s : State) : Prop where
  sender : s.sender.fsm ≠ .idle → s.sender.payload = v ∧ s.sender.peer = q
  receiver : s.receiver.fsm ≠ .idle → s.receiver.peer = p

theorem LinkEffect.configured {v : Word} {p q : Peer} (h : LinkEffect s i t) (hs : Configured v p q s)
    (hsender : i.isStartOf .sender = true → i = .sStart v q)
    (hreceiver : i.isStartOf .receiver = true → i = .rStart p) : Configured v p q t := by
  cases h with
  | sStart =>
    cases hsender rfl
    exact ⟨fun _ => ⟨rfl, rfl⟩, hs.receiver⟩
  | rStart =>
    cases hreceiver rfl
    exact ⟨hs.sender, fun _ => rfl⟩
  | bitTaken _ hrun => exact ⟨hs.sender, fun _ => hs.receiver (by simp [hrun])⟩
  | ackEmits hstarted => exact ⟨fun _ => hs.sender hstarted, hs.receiver⟩
  | deliverBit | deliverAck | ackAbsorbed | dropBit | dropAck => exact ⟨hs.sender, hs.receiver⟩

/-! What fairness needs: what is enabled stays so until it is taken, and leads where it should. -/

/-- A DISP or T.DELIVER stays enabled until it is taken, without RESET and loss. -/
theorem Effect.stays_enabled {j : Instr} (h : Effect s j t) (hreset : j.isReset = false)
    (hlossless : s.transportLossy = false) (hi : i.isDispOrDeliver = true) (hne : j ≠ i)
    (henabled : enabled i s) : enabled i t := by
  obtain ⟨d, k, rfl⟩ | ⟨d, k, rfl⟩ := (isDispOrDeliver_iff i).mp hi
  · exact h.dispOp_stays_enabled (isResetOf_of_not_isReset hreset d) hne henabled
  · rw [enabled_tDeliver] at henabled ⊢
    by_contra hclear
    obtain rfl | rfl := h.moved_of_wire_falls henabled (Bool.eq_false_of_not_eq_true hclear)
    · exact hne rfl
    · have hlossy := ((enabled_tDrop d k s).mp h.operation_enabled).1
      cases hlossless.symm.trans hlossy

theorem Effect.delivered_latched (h : Effect s (Instr.tDeliver d k) t) : (t.pend d).get k = true := by
  obtain ⟨-, rfl⟩ := deliver_next_iff.mp ((exec_tDeliver d k s).symm.trans h.exec_eq)
  cases d <;> exact KindFlags.get_set_same _ _ _

theorem Effect.started_of_start (h : Effect s i t) (hstart : i.isStartOf d = true) :
    t.fsm d ≠ .idle := by
  cases h with
  | sStart =>
    obtain rfl : d = .sender := by simpa using hstart
    exact State.sendBit_started 31 nofun
  | sStartErr _ _ hstarted =>
    obtain rfl : d = .sender := by simpa using hstart
    exact hstarted
  | rStart =>
    obtain rfl : d = .receiver := by simpa using hstart
    nofun
  | rStartErr _ hstarted =>
    obtain rfl : d = .receiver := by simpa using hstart
    exact hstarted
  | _ => simp at hstart

/-! What the lock step says of a started sender over a transport that loses nothing. -/

theorem State.exists_outstanding_of_nb (h : 1 ≤ s.nb) :
    ∃ b, s.outstandingAtReceiver (bitKind b) = true := by
  by_contra hnone
  have hclear (b : Bool) : s.outstandingAtReceiver (bitKind b) = false :=
    Bool.eq_false_of_not_eq_true fun hb => hnone ⟨b, hb⟩
  obtain ⟨hwire0, hpend0⟩ : s.wires.toReceiver.bitZero = false ∧ s.receiver.pend.bitZero = false :=
    Bool.or_eq_false_iff.mp (hclear false)
  obtain ⟨hwire1, hpend1⟩ : s.wires.toReceiver.bitOne = false ∧ s.receiver.pend.bitOne = false :=
    Bool.or_eq_false_iff.mp (hclear true)
  simp [State.nb, hwire0, hpend0, hwire1, hpend1] at h

theorem State.ack_outstanding_of_na (h : 1 ≤ s.na) :
    s.wires.toSender.ack = true ∨ s.sender.pend.ack = true := by
  by_contra hnone
  simp only [not_or, Bool.not_eq_true] at hnone
  simp [State.na, hnone] at h

/-- With no ACK outstanding and bits still to come, the next bit is outstanding. -/
theorem LockStep.exists_bit_outstanding (h : LockStep s) (hlossless : s.transportLossy = false)
    (hstarted : s.sender.fsm ≠ .idle) (hna : s.na = 0) (hlt : s.receiver.cursor.toNat < 32) :
    ∃ b, s.outstandingAtReceiver (bitKind b) = true := by
  have hlost (n : Nat) (hn : s.oneOrLost n) : n = 1 := by
    obtain hone | ⟨hlossy, -⟩ := hn
    · exact hone
    · cases hlossless.symm.trans hlossy
  obtain ⟨-, hnb, -, -⟩ | ⟨-, -, -, hone⟩ | ⟨hcursor, hlast, -, -⟩ := h.started hstarted
  · exact State.exists_outstanding_of_nb (hlost _ hnb).ge
  · have := hlost _ hone
    omega
  · omega

/-- When the receiver holds 32 bits and no ACK is outstanding, the run is quiescent and the payload has
arrived. -/
theorem LockStep.finished (h : LockStep s) (hs : EngineInv s) (hcursor : s.receiver.cursor.toNat = 32)
    (hna : s.na = 0) :
    Quiescent s ∧ s.sender.cursor.toNat = 32 ∧ s.receiver.acc = s.sender.payload := by
  have hstarted : s.sender.fsm ≠ .idle := fun hidle => by
    obtain ⟨-, hzero, -⟩ := h.idle hidle
    omega
  have hle := hs.sender.cursor_le
  obtain ⟨hlast, hnb⟩ : s.sender.cursor.toNat = 32 ∧ s.nb = 0 := by
    obtain ⟨hahead, -⟩ | ⟨hequal, hlt, -⟩ | ⟨-, hlast, hnb, -⟩ := h.started hstarted
    · omega
    · omega
    · exact ⟨hlast, hnb⟩
  exact ⟨⟨⟨hs.sender.done_iff.mpr hlast, hs.receiver.done_iff.mpr hcursor⟩, h.nothingPending hnb hna⟩,
    hlast, BitVec.eq_of_getLsbD_eq fun j hj => h.received j hj (by omega)⟩

/-! Counts. -/

theorem countUpTo_mono (p : Nat → Bool) : Monotone (countUpTo p) :=
  monotone_nat_of_le_succ fun _ => Nat.le_add_right _ _

theorem countUpTo_lt_of_mem {p : Nat → Bool} {m n : Nat} (hnm : n ≤ m) (hm : p m = true) :
    countUpTo p n < countUpTo p (m + 1) := by
  have hle := countUpTo_mono p hnm
  rw [countUpTo, hm]
  exact Nat.lt_succ_of_le hle

/-! Along a transfer. -/

section
variable {σ : Nat → State} {ev : Nat → Option Instr} {v : Word} {p q : Peer} {n : Nat}

theorem Execution.state_kept (h : Execution σ ev) (hn : ev n = none) : σ (n + 1) = σ n := by
  have hpoint := h n
  simpa only [hn] using hpoint

theorem Execution.effect (h : Execution σ ev) (hn : ev n = some i) :
    i.isLinkOp = true ∧ Effect (σ n) i (σ (n + 1)) := by
  have hpoint := h n
  simp only [hn] at hpoint
  exact ⟨hpoint.1, exec_effect hpoint.2⟩

/-- What every operation that takes place keeps holds from the point on at which it holds. -/
theorem Execution.invariant (h : Execution σ ev) {P : State → Prop} {m : Nat} (hm : P (σ m))
    (hkept : ∀ n i, m ≤ n → ev n = some i → P (σ n) → P (σ (n + 1))) : ∀ n, m ≤ n → P (σ n) := by
  intro n hmn
  induction n, hmn using Nat.le_induction with
  | base => exact hm
  | succ n hmn ih =>
    cases hn : ev n with
    | none =>
      rw [h.state_kept hn]
      exact ih
    | some i => exact hkept n i hmn hn ih

/-- A started engine has had its START. -/
theorem Transfer.exists_start (h : Transfer σ ev v p q) (hstarted : (σ n).fsm d ≠ .idle) :
    ∃ m < n, ∃ i, ev m = some i ∧ i.isStartOf d = true := by
  induction n with
  | zero => exact absurd (h.clean.fsm_idle d) hstarted
  | succ n ih =>
    by_cases hidle : (σ n).fsm d = .idle
    · cases hn : ev n with
      | none =>
        rw [h.execution.state_kept hn] at hstarted
        exact absurd hidle hstarted
      | some i => exact ⟨n, n.lt_succ_self, i, hn,
          (h.execution.effect hn).2.isStartOf_of_started hidle hstarted⟩
    · obtain ⟨m, hm, hstart⟩ := ih hidle
      exact ⟨m, by omega, hstart⟩

/-- No engine is started twice: what takes place is a link step. -/
theorem Transfer.linkStep (h : Transfer σ ev v p q) (hn : ev n = some i) :
    LinkStep (σ n) i (σ (n + 1)) := by
  obtain ⟨hlink, heff⟩ := h.execution.effect hn
  refine ⟨heff, hlink, h.no_reset n i hn, fun d hstart => ?_⟩
  by_contra hstarted
  obtain ⟨m, hm, j, hj, hstart'⟩ := h.exists_start hstarted
  have := h.one_start d m n j i hj hn hstart' hstart
  omega

theorem Transfer.lockStep (h : Transfer σ ev v p q) (n : Nat) : EngineInv (σ n) ∧ LockStep (σ n) :=
  h.execution.invariant (P := fun s => EngineInv s ∧ LockStep s)
    ⟨engineInvariantAtPowerOn.2 _ h.clean, h.clean.lockStep⟩
    (fun _ _ _ hn ⟨hs, hlock⟩ => (h.linkStep hn).keeps_lockStep hs hlock) n n.zero_le

theorem Transfer.linkEffect (h : Transfer σ ev v p q) (hn : ev n = some i) :
    LinkEffect (σ n) i (σ (n + 1)) :=
  (h.linkStep hn).linkEffect (h.lockStep n).1 (h.lockStep n).2

theorem Transfer.parameters (h : Transfer σ ev v p q) (n : Nat) :
    (σ n).peerW = (σ 0).peerW ∧ (σ n).transportLossy = false := by
  refine h.execution.invariant (P := fun s => s.peerW = (σ 0).peerW ∧ s.transportLossy = false)
    ⟨rfl, h.lossless⟩ (fun n i _ hn ⟨hpeerW, hlossless⟩ => ?_) n n.zero_le
  obtain ⟨hpeerW', hlossy', -⟩ := (h.linkStep hn).effect.keeps_parameters_trace
  exact ⟨hpeerW'.trans hpeerW, hlossy'.trans hlossless⟩

theorem Transfer.configured (h : Transfer σ ev v p q) (n : Nat) : Configured v p q (σ n) := by
  have hclean : Configured v p q (σ 0) :=
    ⟨fun hstarted => absurd (h.clean.fsm_idle .sender) hstarted,
      fun hstarted => absurd (h.clean.fsm_idle .receiver) hstarted⟩
  refine h.execution.invariant hclean (fun n i _ hn ih => ?_) n n.zero_le
  refine (h.linkEffect hn).configured ih (fun hstart => ?_) fun hstart => ?_
  · obtain ⟨m, hm⟩ := h.starts_sender
    obtain rfl := h.one_start .sender m n _ i hm hn rfl hstart
    exact Option.some.inj (hn.symm.trans hm)
  · obtain ⟨m, hm⟩ := h.starts_receiver
    obtain rfl := h.one_start .receiver m n _ i hm hn rfl hstart
    exact Option.some.inj (hn.symm.trans hm)

/-- The bits dispatched so far are the receiver's cursor. -/
theorem Transfer.count_bits (h : Transfer σ ev v p q) (n : Nat) :
    countUpTo (bitDispatchAt ev) n = (σ n).receiver.cursor.toNat := by
  induction n with
  | zero =>
    rw [h.clean.receiver]
    rfl
  | succ n ih =>
    rw [countUpTo, ih, bitDispatchAt]
    cases hn : ev n with
    | none => rw [h.execution.state_kept hn]; rfl
    | some i => exact ((h.linkEffect hn).receiver_cursor (h.lockStep n).1.receiver).symm

/-- Each bit dispatched has its ACK, dispatched or outstanding. -/
theorem Transfer.count_acks (h : Transfer σ ev v p q) (n : Nat) :
    countUpTo (ackDispatchAt ev) n + (σ n).na = countUpTo (bitDispatchAt ev) n := by
  induction n with
  | zero =>
    rw [State.na, h.clean.wires, h.clean.sender]
    rfl
  | succ n ih =>
    rw [countUpTo, countUpTo, ← ih, bitDispatchAt, ackDispatchAt]
    cases hn : ev n with
    | none => rw [h.execution.state_kept hn]; rfl
    | some i =>
      have hna := (h.linkEffect hn).na (h.lockStep n).2 (h.parameters n).2
      simp only [Option.some.injEq, Option.any_some]
      omega

/-- The sender's cursor counts the bits sent: by S.START and by the dispatches of ACKs. -/
theorem Transfer.count_emitting (h : Transfer σ ev v p q) (n : Nat) :
    countUpTo (emittingAckAt σ ev) n + (σ n).bitOfStart = (σ n).sender.cursor.toNat := by
  induction n with
  | zero =>
    rw [State.bitOfStart, h.clean.sender]
    rfl
  | succ n ih =>
    rw [countUpTo, emittingAckAt, ackDispatchAt]
    cases hn : ev n with
    | none =>
      rw [h.execution.state_kept hn]
      exact ih
    | some i =>
      have hcursor := (h.linkEffect hn).sender_cursor (h.lockStep n).1.sender
      simp only [Option.some.injEq]
      omega

theorem Transfer.started_mono (h : Transfer σ ev v p q) (d : Side) {m : Nat}
    (hm : (σ m).fsm d ≠ .idle) : ∀ n, m ≤ n → (σ n).fsm d ≠ .idle :=
  h.execution.invariant (P := fun s => s.fsm d ≠ .idle) hm fun n i _ hn ih =>
    (h.linkStep hn).effect.started_kept (isResetOf_of_not_isReset (h.no_reset n i hn) d) ih

/-- From some point on both engines are started. -/
theorem Transfer.exists_started (h : Transfer σ ev v p q) :
    ∃ N, ∀ d n, N ≤ n → (σ n).fsm d ≠ .idle := by
  obtain ⟨m, hm⟩ := h.starts_sender
  obtain ⟨m', hm'⟩ := h.starts_receiver
  have hsender : (σ (m + 1)).fsm .sender ≠ .idle := (h.linkStep hm).effect.started_of_start rfl
  have hreceiver : (σ (m' + 1)).fsm .receiver ≠ .idle := (h.linkStep hm').effect.started_of_start rfl
  refine ⟨m + 1 + (m' + 1), fun d n hn => ?_⟩
  cases d with
  | sender => exact h.started_mono .sender hsender n (by omega)
  | receiver => exact h.started_mono .receiver hreceiver n (by omega)

/-- Fairness: what is enabled is taken, because it stays enabled until then. -/
theorem Transfer.taken (h : Transfer σ ev v p q) (hi : i.isDispOrDeliver = true)
    (henabled : enabled i (σ n)) : ∃ m, n ≤ m ∧ ev m = some i := by
  by_contra hnever
  have hstays : ∀ m, n ≤ m → enabled i (σ m) :=
    h.execution.invariant henabled fun m j hnm hm ih =>
      have hne : j ≠ i := fun e => hnever ⟨m, hnm, e ▸ hm⟩
      (h.linkStep hm).effect.stays_enabled (h.no_reset m j hm) (h.parameters m).2 hi hne ih
  exact hnever (h.fair i hi n hstays)

/-- A notification in flight to a started engine, or latched there, comes to be dispatched. -/
theorem Transfer.dispatched (h : Transfer σ ev v p q) (hstarted : (σ n).fsm d ≠ .idle)
    (hout : ((σ n).wire d).get k = true ∨ ((σ n).pend d).get k = true) :
    ∃ m, n ≤ m ∧ ev m = some (dispOp d k) := by
  have hdisp : (dispOp d k).isDispOrDeliver = true := (isDispOrDeliver_iff _).mpr (.inl ⟨d, k, rfl⟩)
  obtain hwire | hpend := hout
  · obtain ⟨m, hnm, hm⟩ :=
      h.taken (i := Instr.tDeliver d k) (by simp) ((enabled_tDeliver d k _).mpr hwire)
    have hlatched := (h.linkStep hm).effect.delivered_latched
    have hstarted' := h.started_mono d hstarted (m + 1) (by omega)
    obtain ⟨m', hm', hev⟩ := h.taken hdisp ((enabled_dispOp d k _).mpr ⟨hstarted', hlatched⟩)
    exact ⟨m', by omega, hev⟩
  · exact h.taken hdisp ((enabled_dispOp d k _).mpr ⟨hstarted, hpend⟩)

theorem Transfer.bit_dispatched (h : Transfer σ ev v p q) {b : Bool}
    (hstarted : (σ n).receiver.fsm ≠ .idle) (hout : (σ n).outstandingAtReceiver (bitKind b) = true) :
    ∃ m, n ≤ m ∧ countUpTo (bitDispatchAt ev) n < countUpTo (bitDispatchAt ev) m := by
  obtain ⟨m, hnm, hm⟩ := h.dispatched (d := .receiver) hstarted (Bool.or_eq_true_iff.mp hout)
  exact ⟨m + 1, by omega, countUpTo_lt_of_mem hnm (by simp [bitDispatchAt, hm, dispOp])⟩

theorem Transfer.ack_dispatched (h : Transfer σ ev v p q) (hstarted : (σ n).sender.fsm ≠ .idle)
    (hna : 1 ≤ (σ n).na) :
    ∃ m, n ≤ m ∧ countUpTo (ackDispatchAt ev) n < countUpTo (ackDispatchAt ev) m := by
  obtain ⟨m, hnm, hm⟩ :=
    h.dispatched (d := .sender) (k := .ack) hstarted (State.ack_outstanding_of_na hna)
  exact ⟨m + 1, by omega, countUpTo_lt_of_mem hnm (by simp [ackDispatchAt, hm, dispOp, Instr.sDisp])⟩

/-- Until the 32nd, one more ACK comes to be dispatched: the one outstanding, or the one that
answers the bit outstanding. -/
theorem Transfer.next_ack (h : Transfer σ ev v p q) (hstarted : ∀ d m, n ≤ m → (σ m).fsm d ≠ .idle)
    (hlt : countUpTo (ackDispatchAt ev) n < 32) :
    ∃ m, n ≤ m ∧ countUpTo (ackDispatchAt ev) n < countUpTo (ackDispatchAt ev) m := by
  have hcount := h.count_acks n
  rcases Nat.eq_zero_or_pos (σ n).na with hnone | hna
  · have hcursor := h.count_bits n
    obtain ⟨b, hout⟩ := (h.lockStep n).2.exists_bit_outstanding (h.parameters n).2
      (hstarted .sender n le_rfl) hnone (by omega)
    obtain ⟨m, hnm, hmore⟩ := h.bit_dispatched (hstarted .receiver n le_rfl) hout
    have hcount' := h.count_acks m
    rcases (countUpTo_mono (ackDispatchAt ev) hnm).lt_or_eq with hdone | hequal
    · exact ⟨m, hnm, hdone⟩
    · obtain ⟨m', hm', hdone⟩ := h.ack_dispatched (hstarted .sender m hnm) (by omega)
      exact ⟨m', by omega, hequal ▸ hdone⟩
  · exact h.ack_dispatched (hstarted .sender n le_rfl) hna

theorem Transfer.acks_le (h : Transfer σ ev v p q) (n : Nat) : countUpTo (ackDispatchAt ev) n ≤ 32 := by
  have hcount := h.count_acks n
  have hcursor := h.count_bits n
  have hle := (h.lockStep n).1.receiver.cursor_le
  omega

/-- From some point on the 32 ACKs have been dispatched. -/
theorem Transfer.exists_all_acks (h : Transfer σ ev v p q) :
    ∃ N, ∀ n, N ≤ n → countUpTo (ackDispatchAt ev) n = 32 := by
  obtain ⟨N, hstarted⟩ := h.exists_started
  have hreached : ∀ a ≤ 32, ∃ n, N ≤ n ∧ a ≤ countUpTo (ackDispatchAt ev) n := fun a ha => by
    induction a with
    | zero => exact ⟨N, le_rfl, Nat.zero_le _⟩
    | succ a ih =>
      obtain ⟨n, hNn, hn⟩ := ih (by omega)
      rcases hn.lt_or_eq with hmore | hequal
      · exact ⟨n, hNn, hmore⟩
      · obtain ⟨m, hnm, hm⟩ := h.next_ack (fun d m hm => hstarted d m (hNn.trans hm)) (by omega)
        exact ⟨m, hNn.trans hnm, by omega⟩
  obtain ⟨N', -, hall⟩ := hreached 32 le_rfl
  exact ⟨N', fun n hn => (h.acks_le n).antisymm (hall.trans (countUpTo_mono _ hn))⟩

/-- Once the 32nd ACK has been dispatched, the receiver holds 32 bits and no ACK is outstanding. -/
theorem Transfer.cursor_na_of_acks (h : Transfer σ ev v p q)
    (hacks : countUpTo (ackDispatchAt ev) n = 32) :
    (σ n).receiver.cursor.toNat = 32 ∧ (σ n).na = 0 := by
  have hcount := h.count_acks n
  have hcursor := h.count_bits n
  have hle := (h.lockStep n).1.receiver.cursor_le
  constructor <;> omega

theorem Transfer.quiescent (h : Transfer σ ev v p q) (hacks : countUpTo (ackDispatchAt ev) n = 32) :
    Quiescent (σ n) ∧ (σ n).sender.cursor.toNat = 32 ∧ (σ n).receiver.acc = (σ n).sender.payload := by
  obtain ⟨hcursor, hna⟩ := h.cursor_na_of_acks hacks
  exact (h.lockStep n).2.finished (h.lockStep n).1 hcursor hna

/-- The registers at the end of a transfer of `v` between a receiver started with `p` and a sender
started with `q`. -/
def endRegisters (w : Nat) (v : Word) (p q : Peer) : State where
  sender := { Sender.reset with payload := v, cursor := 32#6, fsm := .done, peer := q }
  receiver := { Receiver.reset with acc := v, cursor := 32#6, fsm := .done, peer := p }
  wires := Wires.empty
  peerW := w
  transportLossy := false
  trace := []

theorem Transfer.registers_eq (h : Transfer σ ev v p q)
    (hacks : countUpTo (ackDispatchAt ev) n = 32) :
    (σ n).registers = endRegisters (σ 0).peerW v p q := by
  obtain ⟨⟨⟨hsdone, hrdone⟩, hwires, hspend, hrpend⟩, hscursor, hacc⟩ := h.quiescent hacks
  obtain ⟨hrcursor, -⟩ := h.cursor_na_of_acks hacks
  obtain ⟨hpayload, hspeer⟩ := (h.configured n).sender (by simp [hsdone])
  have hrpeer := (h.configured n).receiver (by simp [hrdone])
  obtain ⟨hsunexp, hsstart, hrunexp, hrstart, hroverrun⟩ := (h.lockStep n).2.no_error
  obtain ⟨hpeerW, hlossless⟩ := h.parameters n
  have hscursor' : (σ n).sender.cursor = 32#6 := BitVec.eq_of_toNat_eq hscursor
  have hrcursor' : (σ n).receiver.cursor = 32#6 := BitVec.eq_of_toNat_eq hrcursor
  simp only [State.registers, State.silent, endRegisters, Sender.reset, Receiver.reset, hsdone, hrdone,
    hwires, hspend, hrpend, hscursor', hrcursor', hacc, hpayload, hspeer, hrpeer, hsunexp, hsstart,
    hrunexp, hrstart, hroverrun, hpeerW, hlossless]

end

/-- Settles O45: fairness brings the 32nd ACK, and the lock step and the counts say what holds then. -/
theorem roundTrip : Obligations.RoundTrip := by
  intro σ ev v p q h
  refine ⟨?_, fun n hacks => (h.quiescent hacks).1⟩
  obtain ⟨N, hN⟩ := h.exists_all_acks
  refine ⟨N, fun n hn => ?_⟩
  have hacks := hN n hn
  obtain ⟨hquiescent, hscursor, hacc⟩ := h.quiescent hacks
  obtain ⟨hrcursor, -⟩ := h.cursor_na_of_acks hacks
  have hstarted : (σ n).sender.fsm ≠ .idle := by simp [hquiescent.1.1]
  obtain ⟨hpayload, -⟩ := (h.configured n).sender hstarted
  have hbits : countUpTo (bitDispatchAt ev) n = 32 := (h.count_bits n).trans hrcursor
  have hemitting := h.count_emitting n
  rw [State.bitOfStart, if_neg hstarted] at hemitting
  refine ⟨hquiescent, hpayload, hacc.trans hpayload, (h.lockStep n).2.no_error, hbits, hacks,
    by omega, fun m hlo hhi hm => ?_⟩
  rw [hacc, hpayload, hm]
  exact signed32IsTwosComplement.2 m hlo hhi

/-- While the receiver has not been started, the bit outstanding is the first. -/
theorem LockStep.first_bit_held (h : LockStep s) (hs : EngineInv s)
    (hlossless : s.transportLossy = false) (hstarted : s.sender.fsm ≠ .idle)
    (hidle : s.receiver.fsm = .idle) :
    s.outstandingAtReceiver (bitKind (s.sender.payload.getLsbD 31)) = true := by
  have hcursor : s.receiver.cursor.toNat = 0 := (hs.receiver.idle_cursor hidle).1
  have hsent : 1 ≤ s.sender.cursor.toNat := by
    cases hfsm : s.sender.fsm with
    | idle => exact absurd hfsm hstarted
    | run => exact (hs.sender.run_cursor hfsm).1
    | done =>
      have := hs.sender.done_iff.mp hfsm
      omega
  have hna : s.na = 0 := by
    obtain ⟨-, -, hna, -⟩ | ⟨hequal, -⟩ | ⟨hequal, -⟩ := h.started hstarted
    · exact hna
    · omega
    · omega
  obtain ⟨b, hout⟩ := h.exists_bit_outstanding hlossless hstarted hna (by omega)
  obtain ⟨-, -, -, -, hb⟩ := h.of_bit_outstanding hout
  rw [hcursor] at hb
  exact hb ▸ hout

/-- Settles O46: the end registers are a function of the payload and the peers; and R.START takes
nothing off the wire or out of a latch. -/
theorem startupOrderIrrelevant : Obligations.StartupOrderIrrelevant := by
  refine ⟨fun σ σ' ev ev' v p q h h' hpeerW => ?_, fun s p hs h hlossless hstarted hidle => ?_⟩
  · obtain ⟨N, hN⟩ := h.exists_all_acks
    obtain ⟨N', hN'⟩ := h'.exists_all_acks
    refine ⟨N + N', fun m n hm hn => ?_⟩
    rw [h.registers_eq (hN m (by omega)), h'.registers_eq (hN' n (by omega)), hpeerW]
  · have hheld := h.first_bit_held hs hlossless hstarted hidle
    exact ⟨hheld, _, (Effect.rStart p hidle).exec_eq, hheld⟩

end Sys2Proof.Machine

/-! ### Error flags (60_exceptions.md R204 to R207)

`State.raised` names the one flag an operation raises, so no operation raises two;
`Effect.errorFlag_iff` ties it to `exec`. -/

namespace Sys2Proof.Machine

variable {s t : State} {i : Instr} {f g : ErrorFlag}

/-- The error flag that operation `i` raises in `s` (60_exceptions.md R204 to R206). -/
def State.raised (s : State) : Instr → Option ErrorFlag
  | .sDispBit0 | .sDispBit1 => some (.unexp .sender)
  | .rDispAck => some (.unexp .receiver)
  | .sStart _ _ => if s.sender.fsm = .idle then none else some (.start .sender)
  | .rStart _ => if s.receiver.fsm = .idle then none else some (.start .receiver)
  | .rDispBit0 | .rDispBit1 => if s.receiver.fsm = .done then some .overrun else none
  | _ => none

/-! What is raised, by the rows of one shape. -/

@[simp] theorem State.raised_sDisp_bitKind (s : State) (b : Bool) :
    s.raised (Instr.sDisp (bitKind b)) = some (.unexp .sender) := by cases b <;> rfl
@[simp] theorem State.raised_rDisp_bitKind (s : State) (b : Bool) :
    s.raised (Instr.rDisp (bitKind b)) = if s.receiver.fsm = .done then some .overrun else none := by
  cases b <;> rfl
@[simp] theorem State.raised_sLatch (s : State) (k : Kind) : s.raised (Instr.sLatch k) = none := by
  cases k <;> rfl
@[simp] theorem State.raised_rLatch (s : State) (k : Kind) : s.raised (Instr.rLatch k) = none := by
  cases k <;> rfl
@[simp] theorem State.raised_tDeliver (s : State) (d : Side) (k : Kind) :
    s.raised (Instr.tDeliver d k) = none := by cases k <;> rfl
@[simp] theorem State.raised_tDrop (s : State) (d : Side) (k : Kind) :
    s.raised (Instr.tDrop d k) = none := by cases k <;> rfl

/-! What raises, by the flag. -/

theorem State.raised_eq_unexp_sender :
    s.raised i = some (.unexp .sender) ↔ i = .sDispBit0 ∨ i = .sDispBit1 := by
  cases i <;> simp [State.raised]

theorem State.raised_eq_unexp_receiver : s.raised i = some (.unexp .receiver) ↔ i = .rDispAck := by
  cases i <;> simp [State.raised]

theorem State.raised_eq_start (d : Side) :
    s.raised i = some (.start d) ↔ i.isStartOf d = true ∧ s.fsm d ≠ .idle := by
  cases d <;> cases i <;> simp [State.raised, Instr.isStartOf]

theorem State.raised_eq_overrun :
    s.raised i = some .overrun ↔ i.isBitDispatch = true ∧ s.receiver.fsm = .done := by
  cases i <;> simp [State.raised, Instr.isBitDispatch]

/-! What the updates of the state do to a flag. -/

/-- A flag is read from its own engine only. -/
theorem State.errorFlag_congr
    (hsender : f.side = .sender →
      t.sender.errUnexp = s.sender.errUnexp ∧ t.sender.errStart = s.sender.errStart)
    (hreceiver : f.side = .receiver →
      t.receiver.errUnexp = s.receiver.errUnexp ∧ t.receiver.errStart = s.receiver.errStart ∧
        t.receiver.errOverrun = s.receiver.errOverrun) :
    t.errorFlag f = s.errorFlag f := by
  cases f with
  | unexp d =>
    cases d with
    | sender => exact (hsender rfl).1
    | receiver => exact (hreceiver rfl).1
  | start d =>
    cases d with
    | sender => exact (hsender rfl).2
    | receiver => exact (hreceiver rfl).2.1
  | overrun => exact (hreceiver rfl).2.2

theorem State.reset_errorFlag : State.reset.errorFlag f = false := by
  rcases f with (_ | _) | (_ | _) | _ <;> rfl

theorem State.silent_errorFlag (s : State) : s.silent.errorFlag f = s.errorFlag f :=
  State.errorFlag_congr (fun _ => ⟨rfl, rfl⟩) fun _ => ⟨rfl, rfl, rfl⟩

theorem State.observed_errorFlag (s : State) (d : Side) (k : Kind) :
    (s.observed d k).errorFlag f = s.errorFlag f := by
  cases d <;> exact State.errorFlag_congr (fun _ => ⟨rfl, rfl⟩) fun _ => ⟨rfl, rfl, rfl⟩

theorem State.raiseUnexp_errorFlag (s : State) (d : Side) :
    (s.raiseUnexp d).errorFlag f = true ↔ s.errorFlag f = true ∨ .unexp d = f := by
  rcases f with (_ | _) | (_ | _) | _ <;> cases d <;> simp [State.errorFlag]

theorem State.raiseStart_errorFlag (s : State) (d : Side) :
    (s.raiseStart d).errorFlag f = true ↔ s.errorFlag f = true ∨ .start d = f := by
  rcases f with (_ | _) | (_ | _) | _ <;> cases d <;> simp [State.errorFlag]

theorem State.raiseOverrun_errorFlag (s : State) :
    s.raiseOverrun.errorFlag f = true ↔ s.errorFlag f = true ∨ .overrun = f := by
  rcases f with (_ | _) | (_ | _) | _ <;> simp [State.errorFlag]

/-! What an operation does to a flag. -/

theorem errorFlag_iff_of_raised_none (hraised : s.raised i = none)
    (hkept : t.errorFlag f = s.errorFlag f) :
    t.errorFlag f = true ↔ s.errorFlag f = true ∨ s.raised i = some f := by
  simp [hraised, hkept]

theorem errorFlag_iff_of_raised_some {u : State} (hraised : s.raised i = some g)
    (hkept : u.errorFlag f = s.errorFlag f)
    (hset : t.errorFlag f = true ↔ u.errorFlag f = true ∨ g = f) :
    t.errorFlag f = true ↔ s.errorFlag f = true ∨ s.raised i = some f := by
  rw [hset, hkept, hraised, Option.some.injEq]

/-- Any operation but the RESET of the flag's engine leaves the flag, unless it raises it. -/
theorem Effect.errorFlag_iff (h : Effect s i t) (hreset : i.isResetOf f.side = false) :
    t.errorFlag f = true ↔ s.errorFlag f = true ∨ s.raised i = some f := by
  cases h with
  | sReset =>
    exact errorFlag_iff_of_raised_none rfl <|
      State.errorFlag_congr (fun hside => by simp [hside] at hreset) fun _ => ⟨rfl, rfl, rfl⟩
  | rReset =>
    exact errorFlag_iff_of_raised_none rfl <|
      State.errorFlag_congr (fun _ => ⟨rfl, rfl⟩) fun hside => by simp [hside] at hreset
  | sStartErr _ _ hstarted =>
    exact errorFlag_iff_of_raised_some (if_neg hstarted) s.silent_errorFlag
      (State.raiseStart_errorFlag _ .sender)
  | rStartErr _ hstarted =>
    exact errorFlag_iff_of_raised_some (if_neg hstarted) s.silent_errorFlag
      (State.raiseStart_errorFlag _ .receiver)
  | sUnexpected b =>
    exact errorFlag_iff_of_raised_some (s.raised_sDisp_bitKind b) (s.observed_errorFlag ..)
      (State.raiseUnexp_errorFlag _ .sender)
  | rUnexpected =>
    exact errorFlag_iff_of_raised_some rfl (s.observed_errorFlag ..)
      (State.raiseUnexp_errorFlag _ .receiver)
  | overrun b hdone =>
    exact errorFlag_iff_of_raised_some (by simp [hdone]) (s.observed_errorFlag ..)
      (State.raiseOverrun_errorFlag _)
  | sStart _ _ hidle | rStart _ hidle =>
    exact errorFlag_iff_of_raised_none (if_pos hidle) <|
      State.errorFlag_congr (fun _ => ⟨rfl, rfl⟩) fun _ => ⟨rfl, rfl, rfl⟩
  | bitTaken _ hrun =>
    exact errorFlag_iff_of_raised_none (by simp [hrun]) <|
      State.errorFlag_congr (fun _ => ⟨rfl, rfl⟩) fun _ => ⟨rfl, rfl, rfl⟩
  | sEmit | ackEmits | ackAbsorbed =>
    exact errorFlag_iff_of_raised_none rfl <|
      State.errorFlag_congr (fun _ => ⟨rfl, rfl⟩) fun _ => ⟨rfl, rfl, rfl⟩
  | sLatch | rLatch | deliverS | deliverR | dropS | dropR =>
    exact errorFlag_iff_of_raised_none (by simp) <|
      State.errorFlag_congr (fun _ => ⟨rfl, rfl⟩) fun _ => ⟨rfl, rfl, rfl⟩

/-- RESET clears every flag of its engine. -/
theorem Effect.errorFlag_reset (h : Effect s i t) (hreset : i.isResetOf f.side = true) :
    t.errorFlag f = false := by
  cases h with
  | sReset =>
    rw [← State.reset_errorFlag (f := f)]
    exact State.errorFlag_congr (fun _ => ⟨rfl, rfl⟩) fun hside => by simp [hside] at hreset
  | rReset =>
    rw [← State.reset_errorFlag (f := f)]
    exact State.errorFlag_congr (fun hside => by simp [hside] at hreset) fun _ => ⟨rfl, rfl, rfl⟩
  | _ => simp at hreset

/-- A flag that was clear is set only by the operation that raises it. -/
theorem Effect.raised_of_errorFlag_rises (h : Effect s i t) (hclear : s.errorFlag f = false)
    (hset : t.errorFlag f = true) : s.raised i = some f := by
  have hreset : i.isResetOf f.side = false :=
    Bool.eq_false_of_not_eq_true fun hreset => by simp [h.errorFlag_reset hreset] at hset
  simpa [hclear] using (h.errorFlag_iff hreset).mp hset

/-- Settles O29: but for its engine's RESET a flag is kept or raised, and `State.raised` names one. -/
theorem errorFlagsSticky : Obligations.ErrorFlagsSticky := by
  intro i s t hexec
  have h : Effect s i t := exec_effect hexec
  refine ⟨fun f hset hreset => (h.errorFlag_iff hreset).mpr (.inl hset),
    fun f => h.errorFlag_reset, fun f g hf hf' hg hg' => ?_⟩
  have hraised : some f = some g :=
    (h.raised_of_errorFlag_rises hf hf').symm.trans (h.raised_of_errorFlag_rises hg hg')
  exact Option.some.inj hraised

/-- Settles O30: flag by flag, what `State.raised` names is what the rule names. -/
theorem causesOfErrors : Obligations.CausesOfErrors := by
  intro i s t hexec hreset
  have hflag (f : ErrorFlag) : t.errorFlag f = true ↔ s.errorFlag f = true ∨ s.raised i = some f :=
    (exec_effect hexec).errorFlag_iff (isResetOf_of_not_isReset hreset f.side)
  exact ⟨
    (hflag (.unexp .sender)).trans (or_congr_right State.raised_eq_unexp_sender),
    (hflag (.unexp .receiver)).trans (or_congr_right State.raised_eq_unexp_receiver),
    (hflag (.start .sender)).trans (or_congr_right (State.raised_eq_start .sender)),
    (hflag (.start .receiver)).trans (or_congr_right (State.raised_eq_start .receiver)),
    (hflag .overrun).trans (or_congr_right State.raised_eq_overrun)⟩

end Sys2Proof.Machine

/-! ### Reset and what is in flight (70_reset_and_hazards.md R230 to R238) -/

namespace Sys2Proof.Machine

variable {s t : State} {i : Instr} {d : Side} {k : Kind}

theorem State.reset_clean : Clean State.reset := ⟨rfl, rfl, rfl⟩

/-- No RESET writes a wire (R232). -/
theorem Effect.wires_of_reset (h : Effect s i t) (hreset : i.isReset = true) : t.wires = s.wires := by
  cases h with
  | sReset | rReset => rfl
  | _ => simp at hreset

/-- Settles O1: power-on is the reset records, and no RESET writes a wire. -/
theorem powerOnIsTheResetState : Obligations.PowerOnIsTheResetState := by
  refine ⟨rfl, rfl, rfl, Sender.reset_status, Receiver.reset_status, fun d => ?_,
    State.reset_clean, fun s t h => ?_⟩
  · cases d <;> exact ⟨rfl, rfl, rfl⟩
  · obtain h | h := h <;> exact (exec_effect h).wires_of_reset rfl

/-- `E.RESET` of an engine. -/
def resetOp : Side → Instr
  | .sender => .sReset
  | .receiver => .rReset

/-- `E.START` of an engine; the receiver's takes no payload. -/
def startOp (v : Word) (p : Peer) : Side → Instr
  | .sender => .sStart v p
  | .receiver => .rStart p

theorem ite_eq_resetOp (d : Side) : (if d = .sender then .sReset else .rReset) = resetOp d := by
  cases d <;> rfl

theorem ite_eq_startOp (v : Word) (p : Peer) (d : Side) :
    (if d = .sender then .sStart v p else .rStart p) = startOp v p d := by
  cases d <;> rfl

@[simp] theorem isStartOf_startOp (v : Word) (p : Peer) (d : Side) :
    (startOp v p d).isStartOf d = true := by
  cases d <;> rfl

@[simp] theorem isResetOf_startOp (v : Word) (p : Peer) (d : Side) :
    (startOp v p d).isResetOf d = false := by
  cases d <;> rfl

theorem startOp_ne_dispOp (v : Word) (p : Peer) (d : Side) (k : Kind) : startOp v p d ≠ dispOp d k :=
  ne_of_apply_ne (Instr.isStartOf d) (by simp)

/-- RESET of an engine completes, leaves the engine IDLE and every wire flag as it is (R230 to R232). -/
theorem resetOp_completes (s : State) (d : Side) :
    ∃ t, Effect s (resetOp d) t ∧ t.fsm d = .idle ∧ ∀ e, t.wire e = s.wire e := by
  cases d with
  | sender => exact ⟨_, .sReset, rfl, fun e => by cases e <;> rfl⟩
  | receiver => exact ⟨_, .rReset, rfl, fun e => by cases e <;> rfl⟩

theorem startOp_completes (s : State) (v : Word) (p : Peer) (d : Side) :
    ∃ t, Effect s (startOp v p d) t := by
  cases d with
  | sender => exact sStart_completes s v p
  | receiver => exact rStart_completes s p

/-- Without its START an IDLE engine stays IDLE. -/
theorem Effect.idle_kept (h : Effect s i t) (hidle : s.fsm d = .idle)
    (hstart : i.isStartOf d = false) : t.fsm d = .idle := by
  by_contra hstarted
  cases hstart.symm.trans (h.isStartOf_of_started hidle hstarted)

/-- START enables the DISP of every kind that is latched (42_link.md R160). -/
theorem Effect.dispOp_enabled_of_start {v : Word} {p : Peer} (h : Effect s (startOp v p d) t)
    (hpend : (s.pend d).get k = true) : enabled (dispOp d k) t :=
  (enabled_dispOp d k t).mpr ⟨h.started_of_start (isStartOf_startOp v p d),
    h.latch_kept (isResetOf_startOp v p d) (startOp_ne_dispOp v p d k) hpend⟩

/-- Settles O38: RESET leaves the wire, T.DELIVER latches what is on it in the IDLE engine, and START
takes the engine out of IDLE with the latch still set. -/
theorem staleNotificationSurvivesReset : Obligations.StaleNotificationSurvivesReset := by
  intro s d k v p hwire
  simp only [ite_eq_resetOp, ite_eq_startOp]
  obtain ⟨r, hreset, hreset_idle, hwires⟩ := resetOp_completes s d
  obtain ⟨t, hdeliver⟩ := tDeliver_completes ((hwires d).symm ▸ hwire)
  have hidle : t.fsm d = .idle := hdeliver.idle_kept hreset_idle (isStartOf_tDeliver d k d)
  have hlatched : (t.pend d).get k = true := hdeliver.delivered_latched
  obtain ⟨u, hstart⟩ := startOp_completes t v p d
  refine ⟨t, u, ?_, hidle, hlatched, fun henabled => ?_, hstart.exec_eq,
    hstart.dispOp_enabled_of_start hlatched⟩
  · exact (execAll_cons_next hreset.exec_eq).trans (execAll_cons_next hdeliver.exec_eq)
  · exact ((enabled_dispOp d k t).mp henabled).1 hidle

end Sys2Proof.Machine

/-! ### A correct clock cycle (70_reset_and_hazards.md R244)

`CycleFrame` is what a cycle of one engine leaves and what it does to the wires. It holds of the empty
cycle and of every single operation of the engine, and two cycles one after the other compose. -/

namespace Sys2Proof.Machine

variable {s t u : State} {i : Instr} {d : Side} {out rest : List Notification}

@[simp] theorem otherSide_otherSide (d : Side) : otherSide (otherSide d) = d := by
  cases d <;> rfl

/-- What engine `d` leaves and does to the wires on a way from `s` to `t` along which it presents
`out`. -/
structure CycleFrame (d : Side) (s t : State) (out : List Notification) : Prop where
  receiver : d = .sender → { t.receiver with ntfOut := none } = { s.receiver with ntfOut := none }
  sender : d = .receiver → { t.sender with ntfOut := none } = { s.sender with ntfOut := none }
  own_wire : t.wire d = s.wire d
  parameters_trace : t.peerW = s.peerW ∧ t.transportLossy = s.transportLossy ∧ t.trace = s.trace
  other_wire : ∀ k : Kind, (t.wire (otherSide d)).get k = true ↔
    (s.wire (otherSide d)).get k = true ∨ ∃ n ∈ out, n.kind = k
  kinds : ∀ n ∈ out, n.kind = .ack ↔ d = .receiver

theorem CycleFrame.refl (d : Side) (s : State) : CycleFrame d s s [] where
  receiver _ := rfl
  sender _ := rfl
  own_wire := rfl
  parameters_trace := ⟨rfl, rfl, rfl⟩
  other_wire _ := by simp
  kinds := by simp

theorem CycleFrame.trans (h : CycleFrame d s t out) (h' : CycleFrame d t u rest) :
    CycleFrame d s u (out ++ rest) where
  receiver hd := (h'.receiver hd).trans (h.receiver hd)
  sender hd := (h'.sender hd).trans (h.sender hd)
  own_wire := h'.own_wire.trans h.own_wire
  parameters_trace := by
    obtain ⟨hpeerW, hlossy, htrace⟩ := h.parameters_trace
    obtain ⟨hpeerW', hlossy', htrace'⟩ := h'.parameters_trace
    exact ⟨hpeerW'.trans hpeerW, hlossy'.trans hlossy, htrace'.trans htrace⟩
  other_wire k := by
    rw [h'.other_wire, h.other_wire, or_assoc]
    simp only [List.mem_append, or_and_right, exists_or]
  kinds n hn := (List.mem_append.mp hn).elim (h.kinds n) (h'.kinds n)

theorem Effect.own_wire_kept (h : Effect s i t) (hi : i.agent = .engine d) : t.wire d = s.wire d := by
  cases d with
  | sender => exact (h.frame_of_sender hi).2
  | receiver => exact (h.frame_of_receiver hi).2

/-- An engine's operation takes nothing off the wires to the other engine, so a flag there is set
exactly if it was or its notification is presented (42_link.md R164). -/
theorem Effect.other_wire_iff (h : Effect s i t) (hi : i.agent = .engine d) (k : Kind) :
    (t.wire (otherSide d)).get k = true ↔
      (s.wire (otherSide d)).get k = true ∨ ∃ n ∈ (t.ntfOut d).toList, n.kind = k := by
  have hcases := h.wire_cases (otherSide d)
  rw [otherSide_otherSide] at hcases
  obtain ⟨n, hout, hset⟩ | ⟨hout, hkept | ⟨k', rfl | rfl, -⟩⟩ := hcases
  · by_cases e : k = n.kind
    · simp [hout, hset, e]
    · simp [hout, hset, e, Ne.symm e]
  · simp [hout, hkept]
  · simp at hi
  · simp at hi

/-- The sender presents bit kinds only, the receiver ACKs only (10_state.md R39). -/
theorem Effect.presented_kind (h : Effect s i t) {n : Notification} (hn : t.ntfOut d = some n) :
    n.kind = .ack ↔ d = .receiver := by
  cases d with
  | sender => exact iff_of_false (h.sender_emits_bit hn) nofun
  | receiver => exact iff_of_true (h.receiver_emits_ack hn) rfl

theorem Effect.cycleFrame (h : Effect s i t) (hi : i.agent = .engine d) :
    CycleFrame d s t (t.ntfOut d).toList where
  receiver hd := by
    subst hd
    rw [(h.frame_of_sender hi).1]
  sender hd := by
    subst hd
    rw [(h.frame_of_receiver hi).1]
  own_wire := h.own_wire_kept hi
  parameters_trace := h.keeps_parameters_trace
  other_wire := h.other_wire_iff hi
  kinds _ hn := h.presented_kind (Option.mem_toList.mp hn)

/-- The frame of a sequence of the engine's operations, by induction on the sequence. -/
theorem execEmitting_cycleFrame {is : List Instr} (his : ∀ i ∈ is, i.agent = .engine d)
    (h : execEmitting d is s = some (t, out)) : CycleFrame d s t out := by
  induction is generalizing s out with
  | nil =>
    cases h
    exact .refl d _
  | cons i is ih =>
    obtain ⟨r, rest, hexec, hrun, rfl⟩ := execEmitting_cons_eq_some.mp h
    rw [List.forall_mem_cons] at his
    exact ((exec_effect hexec).cycleFrame his.1).trans (ih his.2 hrun)

/-- Settles O53, by the frame of each of the cycle's operations. -/
theorem correctCycleFrame : Obligations.CorrectCycleFrame := by
  rintro d s t out ⟨is, his, hrun⟩
  have h : CycleFrame d s t out := execEmitting_cycleFrame (fun i hi => (his i hi).1) hrun
  obtain ⟨hpeerW, hlossy, htrace⟩ := h.parameters_trace
  exact ⟨h.receiver, h.sender, h.own_wire, hpeerW, hlossy, htrace, h.other_wire, h.kinds⟩

end Sys2Proof.Machine
